-- ==== Sys2Proof/Word.lean ====
section
/-! DEFINITION. The word types of the RPD block (00_scope.md rules R9, R10; 30_encoding.md rules R80, R82). -/

namespace Sys2Proof

/-- A received byte, a frame-buffer byte, an 8-bit accumulator. -/
abbrev Byte := BitVec 8

/-- A 16-bit channel value, pulse slot, accumulator or response datum. -/
abbrev Half := BitVec 16

/-- A 32-bit command or edge word (30_encoding.md rule R82) or time sample (00_scope.md rule R7). -/
abbrev Word := BitVec 32

end Sys2Proof
end

