-- ==== Sys2Proof/Config.lean ====
section
/-! DEFINITION. The parameters of the block (00_scope.md rule R7), each one a field of the configuration; those to which rule
R7 gives one value stand together in `FixedParams` (log 2). -/

namespace Sys2Proof

/-- The five protocols (10_state.md rule R21, 30_encoding.md rule R99). -/
inductive Proto where
  | crsf
  | sbus
  | ibus
  | ppm
  | pwm
  deriving DecidableEq, Repr

/-- The CRSF check mode `CRSF_CHECK` (42_byte_decoders.md rule R174). -/
inductive CrsfCheck where
  | crc8
  | xor
  deriving DecidableEq, Repr

/-- One protocol's calibration: `MIN_p`, `MAX_p` and the threshold `TH_p` (00_scope.md rule R7). -/
structure Calib where
  min : Nat
  max : Nat
  th  : Nat
  deriving DecidableEq, Repr

/-- The parameters to which 00_scope.md rule R7 gives one value (status source, derived or decision), each with that value
as its default. A legal configuration has these values (log 2). -/
structure FixedParams where
  /-- `NCH_MAX`; the width of the storage is `chEntries`. -/
  nchMax     : Nat := 16
  nCrsf      : Nat := 16
  nSbus      : Nat := 16
  nIbus      : Nat := 14
  syncCrsf   : Byte := 0xC8
  syncSbus   : Byte := 0x0F
  footerSbus : Byte := 0x00
  hdr1Ibus   : Byte := 0x20
  hdr2Ibus   : Byte := 0x40
  crsfLenMin : Nat := 3
  crsfLenMax : Nat := 62
  /-- `FRAME_BUF`; the size of the storage is `bufBytes`. -/
  frameBuf   : Nat := 64
  sbusLen    : Nat := 25
  ibusLen    : Nat := 32
  crsfTypeRc : Byte := 0x16
  crsfRcLen  : Nat := 24
  sbusFsByte : Nat := 23
  sbusFsMask : Byte := 0x08
  outMin     : Nat := 1000
  outMax     : Nat := 2000
  outRange   : Nat := 1000
  /-- The widths of `now_ms` and `edge_ts_us`, which the types of the time inputs realise. -/
  nowMsBits    : Nat := 32
  edgeTsUsBits : Nat := 32
  deriving DecidableEq, Repr

/-- The configuration (00_scope.md rule R7): the parameters rule R8 constrains and `CRSF_CHECK`, and with them the ones
that have one value. Each default is the default of rule R7 (log 1). -/
structure Config where
  fixed     : FixedParams := {}
  nPpm      : Nat := 8
  nPwm      : Nat := 8
  crsfCheck : CrsfCheck := .crc8
  calCrsf   : Calib := ⟨172, 1811, 100⟩
  calSbus   : Calib := ⟨172, 1811, 100⟩
  calIbus   : Calib := ⟨1000, 2000, 100⟩
  calPpm    : Calib := ⟨1000, 2000, 100⟩
  calPwm    : Calib := ⟨1000, 2000, 100⟩
  ftCrsf    : Nat := 2
  ftSbus    : Nat := 4
  ftIbus    : Nat := 4
  ltCrsf    : Nat := 60
  ltSbus    : Nat := 140
  ltIbus    : Nat := 70
  ltPpm     : Nat := 225
  ltPwm     : Nat := 200
  ppmSyncUs : Nat := 3000
  resetProto : Proto := .crsf
  deriving DecidableEq, Repr

/-- The configuration with every default of 00_scope.md rule R7. -/
def Config.default : Config := {}

/-! The sizes of the storage. -/

/-- The entries of `CH`, `RISE_TS`, `RISE_VALID`, `SLOT`, `T_PULSE` and `FAULT`, `[0..15]` (10_state.md rules R27, R33 to
R36). -/
abbrev chEntries : Nat := 16

/-- The bytes of `BUF[0..63]` (10_state.md rule R25). -/
def bufBytes : Nat := 64

end Sys2Proof
end

