-- ==== Sys2Proof/Syntax.lean ====
section
/-! DEFINITION. The transactions of the block, one constructor per row of spec/opcode_table.json (30_encoding.md rule R83),
with the operands rule R90 decodes. Bits a transaction does not use (rule R92) are no operand. -/

namespace Sys2Proof

/-- The operand `SUB[2:0]` of SEL: a protocol (30_encoding.md rule R99) or a reserved code, 5 to 7 (rule R93). -/
inductive ProtoSel where
  | proto (p : Proto)
  | reserved (code : Nat)
  deriving DecidableEq, Repr

/-- The operand `SUB[1:0]` of CKI, CKF and CKR (30_encoding.md rule R100); code 3 is reserved (rule R93). -/
inductive CkUnit where
  | xor
  | sub16
  | crc8
  | reserved
  deriving DecidableEq, Repr

/-- The operands of RDFLT (30_encoding.md rule R100): `IDX` is used by mode CH only; mode 3 is reserved (rule R93). -/
inductive FaultQuery where
  | all
  | any
  | channel (i : Nat)
  | reserved
  deriving DecidableEq, Repr

/-- The operand `DATA[0]` of EDGE: 1 rising, 0 falling (30_encoding.md rule R90). -/
inductive Level where
  | rising
  | falling
  deriving DecidableEq, Repr

/-- One transaction of 30_encoding.md rule R83. -/
inductive Instr where
  | nop
  | rxb (data : Byte)
  | upd
  | edge (ch : Nat) (lvl : Level)
  | sel (p : ProtoSel)
  | cki (u : CkUnit)
  | ckf (u : CkUnit) (data : Byte)
  | ckr (u : CkUnit)
  | rdch (i : Nat)
  | rdflt (q : FaultQuery)
  | rdst
  | reservedB
  | reservedC
  | reservedD
  | reservedE
  | reservedF
  deriving DecidableEq, Repr

end Sys2Proof
end

