-- ==== Sys2Proof/WellFormed.lean ====
section
/-! DEFINITION. Which terms of `Instr` stand for a 32-bit word: the operands that are numbers fit their fields
(30_encoding.md rules R82, R90, R93). -/

namespace Sys2Proof

/-- `IDX` is an unsigned channel index 0..255 (30_encoding.md rule R90). -/
def idxFits (i : Nat) : Bool := decide (i < 256)

/-- The reserved protocol codes are 5, 6 and 7 (30_encoding.md rule R93). -/
def ProtoSel.wellFormed : ProtoSel → Bool
  | .proto _ => true
  | .reserved code => decide (5 ≤ code) && decide (code < 8)

/-- Mode CH names a channel index. -/
def FaultQuery.wellFormed : FaultQuery → Bool
  | .all => true
  | .any => true
  | .channel i => idxFits i
  | .reserved => true

/-- A transaction whose operands fit the fields of format C. -/
def Instr.wellFormed : Instr → Bool
  | .nop => true
  | .rxb _ => true
  | .upd => true
  | .edge ch _ => idxFits ch
  | .sel p => p.wellFormed
  | .cki _ => true
  | .ckf _ _ => true
  | .ckr _ => true
  | .rdch i => idxFits i
  | .rdflt q => q.wellFormed
  | .rdst => true
  | .reservedB => true
  | .reservedC => true
  | .reservedD => true
  | .reservedE => true
  | .reservedF => true

end Sys2Proof
end

