-- ==== Sys2Proof/Decode.lean ====
section
/-! DEFINITION. The decoder of a 32-bit word (30_encoding.md rules R82, R83, R90 to R95, R99, R100), total on all 2^32 words
(rule R95: every word is one row of the opcode map or a reserved row, so it rejects none), and after it the encoder.
Decoding does not look at the port: rules R91 and R94 are part of the meanings. -/

namespace Sys2Proof

/-! The five fields of format C (30_encoding.md rule R82). -/

def opField (w : Word) : BitVec 4 := w.extractLsb' 28 4
def subField (w : Word) : BitVec 4 := w.extractLsb' 24 4
def idxField (w : Word) : Byte := w.extractLsb' 8 8
def dataField (w : Word) : Byte := w.extractLsb' 0 8

/-- `SUB[2:0]` of SEL (rule R99); `SUB[3]` is ignored (rule R90). -/
def decodeProtoSel (sub : BitVec 4) : ProtoSel :=
  match sub.toNat % 8 with
  | 0 => .proto .crsf
  | 1 => .proto .sbus
  | 2 => .proto .ibus
  | 3 => .proto .ppm
  | 4 => .proto .pwm
  | n => .reserved n

/-- `SUB[1:0]` of CKI, CKF and CKR (rule R100); `SUB[3:2]` is ignored (rule R90). -/
def decodeUnit (sub : BitVec 4) : CkUnit :=
  match sub.toNat % 4 with
  | 0 => .xor
  | 1 => .sub16
  | 2 => .crc8
  | _ => .reserved

/-- `SUB[1:0]` and `IDX` of RDFLT (rule R100); `SUB[3:2]` is ignored, and `IDX` in modes ALL and ANY (rules R90, R245). -/
def decodeQuery (sub : BitVec 4) (idx : Byte) : FaultQuery :=
  match sub.toNat % 4 with
  | 0 => .all
  | 1 => .any
  | 2 => .channel idx.toNat
  | _ => .reserved

/-- `DATA[0]` of EDGE; `DATA[7:1]` is ignored (rule R90). -/
def decodeLevel (data : Byte) : Level :=
  if data.getLsbD 0 then .rising else .falling

/-- The transaction a word stands for: `OP` alone selects it (rule R83). -/
def decode (w : Word) : Instr :=
  match (opField w).toNat with
  | 0 => .nop
  | 1 => .rxb (dataField w)
  | 2 => .upd
  | 3 => .edge (idxField w).toNat (decodeLevel (dataField w))
  | 4 => .sel (decodeProtoSel (subField w))
  | 5 => .cki (decodeUnit (subField w))
  | 6 => .ckf (decodeUnit (subField w)) (dataField w)
  | 7 => .ckr (decodeUnit (subField w))
  | 8 => .rdch (idxField w).toNat
  | 9 => .rdflt (decodeQuery (subField w) (idxField w))
  | 10 => .rdst
  | 11 => .reservedB
  | 12 => .reservedC
  | 13 => .reservedD
  | 14 => .reservedE
  | _ => .reservedF

/-- The host's reading of a table row: the low `nbits` bits of `w`, every other bit 0, decoded. A word is delivered whole
on a parallel port and has no byte order (20_memory.md rule R63). -/
def decodeTableWord (nbits w : Nat) : Option Instr :=
  some (decode (BitVec.ofNat 32 (w % 2 ^ nbits)))

/-! The encoder (30_encoding.md rules R82, R83, R99, R100), zero in every unused field (rule R97). -/

/-- Format C with `RSV` zero. -/
def formatC (op sub : BitVec 4) (idx data : Byte) : Word :=
  op ++ sub ++ (0#8) ++ idx ++ data

/-- The protocol codes of rule R99. -/
def Proto.code : Proto → BitVec 3
  | .crsf => 0
  | .sbus => 1
  | .ibus => 2
  | .ppm => 3
  | .pwm => 4

def ProtoSel.code : ProtoSel → BitVec 4
  | .proto p => p.code.setWidth 4
  | .reserved n => BitVec.ofNat 4 n

/-- The unit codes of rule R100. -/
def CkUnit.code : CkUnit → BitVec 4
  | .xor => 0
  | .sub16 => 1
  | .crc8 => 2
  | .reserved => 3

/-- The fault-query modes of rule R100. -/
def FaultQuery.code : FaultQuery → BitVec 4
  | .all => 0
  | .any => 1
  | .channel _ => 2
  | .reserved => 3

def FaultQuery.idx : FaultQuery → Byte
  | .all => 0
  | .any => 0
  | .channel i => BitVec.ofNat 8 i
  | .reserved => 0

def Level.data : Level → Byte
  | .rising => 1
  | .falling => 0

/-- The word of a transaction. -/
def encode : Instr → Word
  | .nop => formatC 0x0 0 0 0
  | .rxb data => formatC 0x1 0 0 data
  | .upd => formatC 0x2 0 0 0
  | .edge ch lvl => formatC 0x3 0 (BitVec.ofNat 8 ch) lvl.data
  | .sel p => formatC 0x4 p.code 0 0
  | .cki u => formatC 0x5 u.code 0 0
  | .ckf u data => formatC 0x6 u.code 0 data
  | .ckr u => formatC 0x7 u.code 0 0
  | .rdch i => formatC 0x8 0 (BitVec.ofNat 8 i) 0
  | .rdflt q => formatC 0x9 q.code q.idx 0
  | .rdst => formatC 0xA 0 0 0
  | .reservedB => formatC 0xB 0 0 0
  | .reservedC => formatC 0xC 0 0 0
  | .reservedD => formatC 0xD 0 0 0
  | .reservedE => formatC 0xE 0 0 0
  | .reservedF => formatC 0xF 0 0 0

end Sys2Proof
end

