-- ==== Sys2Proof/Machine/State.lean ====
section
/-! DEFINITION. The state of the block (10_state.md rules R20 to R37), the transfers on its ports (30_encoding.md rules R80,
R81) and its state after reset (10_state.md rule R44, 70_reset_and_hazards.md rule R290). Plain data. -/

namespace Sys2Proof.Machine

/-- The reasons the machine stops. No transaction of the spec stops the block (60_exceptions.md rule R260). -/
inductive Fault where
  /-- Raised by `step` under a configuration that breaks 00_scope.md rule R8 or a value rule R7 fixes, whose behaviour the spec leaves unspecified
  (93_implementation_defined.md I10: configuration rejected). Safe: the machine stops. Log 3. -/
  | configRejected
  /-- Raised by CRSF frame completion when the length byte in the buffer points past `BUF[63]`, an address that does not
  exist (20_memory.md rule R60). Cannot happen from reset (rule R75). Safe: the machine stops. Log 8. -/
  | bufferRange
  deriving DecidableEq, Repr

/-- The reasons an instruction has no meaning. -/
inductive Refusal where
  /-- Raised by an arm of `exec` whose instruction has no meaning yet; no arm does. Safe: the machine stops. -/
  | notModelled (mnemonic : String)
  deriving DecidableEq, Repr

/-- `FrameAssemblyState` (10_state.md rule R24). The value 3, which no rule writes, has no constructor (log 9). -/
inductive Fsm where
  | idle
  | haveSync
  | collecting
  deriving DecidableEq, Repr

/-- The codes of `LAST_STATUS` (60_exceptions.md rule R262), in the order 0 to 9; 10 to 15 are never written (log 9). -/
inductive Status where
  | none
  | okCh
  | okIgn
  | badLen
  | badHdr
  | badCk
  | badFoot
  | timeout
  | overflow
  | failsafe
  deriving DecidableEq, Repr

/-- The frame buffer (20_memory.md rule R60) as the cells that do not read 0, addresses rising. -/
abbrev Memory := List Host.Cell

/-- The two input ports (30_encoding.md rule R80). -/
inductive Port where
  | command
  | edge
  deriving DecidableEq, Repr

/-- One transfer on the command port: the word and the `now_ms` sampled with it (30_encoding.md rule R80). -/
structure CommandTransfer where
  word  : Word
  nowMs : Word
  deriving DecidableEq, Repr

/-- One transfer on the edge port: the word and the `edge_ts_us` sampled with it (30_encoding.md rule R80). -/
structure EdgeTransfer where
  word     : Word
  edgeTsUs : Word
  deriving DecidableEq, Repr

/-- The transaction that is in progress when `rst` is asserted (70_reset_and_hazards.md rule R290). -/
inductive InProgress where
  | nothing
  | command (c : CommandTransfer)
  | edge (e : EdgeTransfer)
  | both (e : EdgeTransfer) (c : CommandTransfer)
  deriving DecidableEq, Repr

/-- What happens at the block's inputs at one moment: `rst` is asserted, possibly cutting off a transaction in progress, or
released (70_reset_and_hazards.md rules R290, R293; log 16); a transfer is offered on one port, or one on each port in the
same cycle (20_memory.md rule R69). -/
inductive Arrival where
  | assertRst (cut : InProgress)
  | releaseRst
  | command (c : CommandTransfer)
  | edge (e : EdgeTransfer)
  | both (e : EdgeTransfer) (c : CommandTransfer)
  deriving DecidableEq, Repr

/-- One response `(rsp_err, rsp_data)` (30_encoding.md rule R81). -/
structure Response where
  err  : Bool
  data : Half
  deriving DecidableEq, Repr

/-- The machine. The first group is the model's own, the last is the signals of the ports; between them stands every field
of 10_state.md rules R21 to R37 under its own name. -/
structure State where
  /-- The parameters, fixed for the block's lifetime (00_scope.md rule R7; log 1). -/
  cfg         : Config
  /-- What has arrived and is not processed yet, in the block's serialised order (20_memory.md rule R69; log 4). -/
  arrivals    : List Arrival
  /-- `PROTO` (R21). -/
  proto       : Proto
  /-- `FSM` (R24). -/
  fsm         : Fsm
  /-- `BUF[0..63]` (R25). -/
  buf         : Memory
  /-- `IDX`, 0..64 (R26; log 10). -/
  idx         : Nat
  /-- `FLEN`, 0..64 (R26; log 10). -/
  flen        : Nat
  /-- `CH[0..15]` (R27). -/
  ch          : Vector Half chEntries
  /-- `T_FRAME`, ms (R28). -/
  tFrame      : Word
  /-- `T_VALID`, ms (R29). -/
  tValid      : Word
  /-- `INPUT_LOST` (R30). -/
  inputLost   : Bool
  /-- `LAST_STATUS` (R31). -/
  lastStatus  : Status
  /-- `ACC_XOR`, `ACC_SUB`, `ACC_CRC` (R32). -/
  accXor      : Byte
  accSub      : Half
  accCrc      : Byte
  /-- `RISE_TS[0..15]`, us, and `RISE_VALID[0..15]` (R33). -/
  riseTs      : Vector Word chEntries
  riseValid   : Vector Bool chEntries
  /-- `SLOT[0..15]`, us, 0 for empty (R34). -/
  slot        : Vector Half chEntries
  /-- `T_PULSE[0..15]`, ms (R35). -/
  tPulse      : Vector Word chEntries
  /-- `FAULT[0..15]` (R36). -/
  chFault     : Vector Bool chEntries
  /-- `PPM_PREV`, `PPM_HAVE_PREV`, `PPM_IDX` (0..16; log 10), `PPM_SYNCED`, `PPM_FRAME` (R37). -/
  ppmPrev     : Word
  ppmHavePrev : Bool
  ppmIdx      : Nat
  ppmSynced   : Bool
  ppmFrame    : Bool
  /-- The port of the transaction in progress (R80; log 6). -/
  port        : Port
  /-- The `now_ms` sampled with the last command (R80; log 6). -/
  nowMs       : Word
  /-- The `edge_ts_us` sampled with the last edge word (R80; log 6). -/
  edgeTsUs    : Word
  /-- `rst` is asserted (R80, R290; log 16). -/
  rst         : Bool
  /-- The responses driven so far, oldest first (R81; log 5). -/
  responses   : List Response
  deriving DecidableEq, Repr

/-- The block after reset under a configuration: every field at its value of 10_state.md rule R44, nothing arrived, `rst`
released (log 16), no response driven. -/
def State.resetWith (cfg : Config) : State where
  cfg         := cfg
  arrivals    := []
  proto       := cfg.resetProto
  fsm         := .idle
  buf         := []
  idx         := 0
  flen        := 0
  ch          := Vector.replicate chEntries 0
  tFrame      := 0
  tValid      := 0
  inputLost   := true
  lastStatus  := .none
  accXor      := 0x00
  accSub      := 0xFFFF
  accCrc      := 0x00
  riseTs      := Vector.replicate chEntries 0
  riseValid   := Vector.replicate chEntries false
  slot        := Vector.replicate chEntries 0
  tPulse      := Vector.replicate chEntries 0
  chFault     := Vector.replicate chEntries true
  ppmPrev     := 0
  ppmHavePrev := false
  ppmIdx      := 0
  ppmSynced   := false
  ppmFrame    := false
  port        := .command
  nowMs       := 0
  edgeTsUs    := 0
  rst         := false
  responses   := []

/-- The machine right after reset, under the default parameters of 00_scope.md rule R7 (log 1). -/
def State.reset : State := State.resetWith Config.default

end Sys2Proof.Machine
end

