-- ==== Sys2Proof/Machine/Ops.lean ====
section
/-! DEFINITION. The operations the meanings share: the frame buffer, the per-channel arrays, elapsed time, the ports'
rules and responses, the construction of a decoder. The block has no exception entry and no return from one
(60_exceptions.md rules R260, R268, R269); what stands in their place is the refusal of a word, `State.refuseWord`. -/

namespace Sys2Proof.Machine

/-! The frame buffer (20_memory.md rule R60). -/

/-- `BUF[a]`; a byte that is not listed reads 0, its reset value (10_state.md rule R25). -/
def Memory.byteAt : Memory → Nat → Byte
  | [], _ => 0
  | (k, v) :: rest, a => if k = a then v else Memory.byteAt rest a

/-- The list without the cell of address `a`. -/
def Memory.erase : Memory → Nat → Memory
  | [], _ => []
  | (k, v) :: rest, a => if k = a then Memory.erase rest a else (k, v) :: Memory.erase rest a

/-- The list with a new cell at its place among rising addresses. -/
def Memory.insert : Memory → Nat → Byte → Memory
  | [], a, b => [(a, b)]
  | (k, v) :: rest, a, b => if a < k then (a, b) :: (k, v) :: rest else (k, v) :: Memory.insert rest a b

/-- `BUF[a] <- b` for `a < 64`; writing 0 leaves the byte unlisted. -/
def Memory.write (m : Memory) (a : Nat) (b : Byte) : Memory :=
  if b = 0 then m.erase a else (m.erase a).insert a b

/-- Every address of the list is above `lo`, rising, inside the buffer, and no listed byte is 0. -/
def Memory.wfAbove : Nat → Memory → Bool
  | _, [] => true
  | lo, (k, v) :: rest => decide (lo ≤ k) && decide (k < bufBytes) && decide (v ≠ 0) && Memory.wfAbove (k + 1) rest

/-- The canonical form: addresses strictly rising, inside `BUF[0..63]`, no entry equal to what an unlisted address reads. -/
def Memory.wf (m : Memory) : Bool := Memory.wfAbove 0 m

/-- `BUF[lo], ..., BUF[lo + n - 1]`. -/
def Memory.slice (m : Memory) (lo n : Nat) : List Byte :=
  (List.range n).map fun k => m.byteAt (lo + k)

/-! The per-channel arrays. -/

/-- Entry `i` of a per-channel array; every caller's index is below 16. -/
def entry {α : Type} (v : Vector α chEntries) (d : α) (i : Nat) : α := (v[i]?).getD d

/-- `V[i] <- x`. -/
def setEntry {α : Type} (v : Vector α chEntries) (i : Nat) (x : α) : Vector α chEntries := v.setIfInBounds i x

/-! Time. -/

/-- `elapsed(t, t0) = (t - t0) mod 2^32` (00_scope.md rule R12). -/
def elapsed (t t0 : Word) : Nat := (t - t0).toNat

/-- A watchdog's test: strictly more than the timeout has elapsed (42_byte_decoders.md rule R176). -/
def expired (now t0 : Word) (timeout : Nat) : Bool := decide (timeout < elapsed now t0)

/-! Responses and the ports (30_encoding.md rules R81, R91, R94). -/

/-- Drive one response. -/
def State.respond (s : State) (err : Bool) (data : Half) : State :=
  { s with responses := s.responses ++ [⟨err, data⟩] }

/-- A reserved or refused word: response `(1, 0)`, no other effect (30_encoding.md rules R81, R91, R93). -/
def State.refuseWord (s : State) : State := s.respond true 0

/-- A transaction of the command port; on the edge port its word is ignored and answers nothing (30_encoding.md rule R94). -/
def onCommandPort (s : State) (effect : Host.Outcome State Fault Refusal) : Host.Outcome State Fault Refusal :=
  match s.port with
  | .command => effect
  | .edge => .next s

/-- A transaction of the edge port, which answers nothing; on the command port its word is refused (30_encoding.md rule R91). -/
def onEdgePort (s : State) (effect : Host.Outcome State Fault Refusal) : Host.Outcome State Fault Refusal :=
  match s.port with
  | .command => .next s.refuseWord
  | .edge => effect

/-! Decoder construction and the updates several rules share. -/

/-- `ResetDecoderState()` (44_control_readout.md rule R242). -/
def State.resetDecoder (s : State) : State :=
  { s with
    fsm := .idle, idx := 0, flen := 0, tFrame := 0, buf := []
    ch := Vector.replicate chEntries 0, tValid := 0, inputLost := true, lastStatus := .none
    riseTs := Vector.replicate chEntries 0, riseValid := Vector.replicate chEntries false
    slot := Vector.replicate chEntries 0
    tPulse := Vector.replicate chEntries 0, chFault := Vector.replicate chEntries true
    ppmPrev := 0, ppmHavePrev := false, ppmIdx := 0, ppmSynced := false, ppmFrame := false }

/-- Asserting `rst` (70_reset_and_hazards.md rule R290): every field of the block at its reset value; the configuration,
what has arrived, the sampled inputs and the responses already driven are outside the block (log 4, log 5, log 6). -/
def State.assertReset (s : State) : State :=
  { s.resetDecoder with proto := s.cfg.resetProto, accXor := 0x00, accSub := 0xFFFF, accCrc := 0x00 }

/-- `FSM <- Idle; IDX <- 0` (42_byte_decoders.md rules R152, R155, R156, R158, R160). -/
def State.toIdle (s : State) : State := { s with fsm := .idle, idx := 0 }

/-- `LAST_STATUS <- c`. -/
def State.withStatus (s : State) (c : Status) : State := { s with lastStatus := c }

/-- Link loss: `INPUT_LOST <- 1; CH[0..15] <- 0` (42_byte_decoders.md rules R165, R172, R173; 43_pulse_decoders.md rule R215). -/
def State.loseLink (s : State) : State :=
  { s with inputLost := true, ch := Vector.replicate chEntries 0 }

/-- `Accept(v, now)` (42_byte_decoders.md rule R169). -/
def State.accept (s : State) (v : Vector Half chEntries) (now : Word) : State :=
  { s with ch := v, inputLost := false, tValid := now, lastStatus := .okCh }

/-- `body 0; body 1; ...; body (n - 1)`: the loops over channels of UPD. -/
def forChannels : Nat → (Nat → State → State) → State → State
  | 0, _, s => s
  | n + 1, body, s => body n (forChannels n body s)

end Sys2Proof.Machine
end

