-- ==== Sys2Proof/Machine/Operands.lean ====
section
/-! DEFINITION. What the operands and parameters select: the per-protocol parameters (00_scope.md rules R7, R13), the legal
configurations (rule R8), the datapath functions the decoders apply to the buffer and to pulse widths: the three checksums
(40_checksum.md rules R110 to R115), the channel unpacker and the normalizer (41_unpack_normalize.md rules R130 to R140). -/

namespace Sys2Proof.Machine

/-! Parameters with a suffix `_p` (00_scope.md rule R13). -/

/-- The byte protocols (42_byte_decoders.md rule R150). -/
def isByteProto : Proto → Bool
  | .crsf => true
  | .sbus => true
  | .ibus => true
  | .ppm => false
  | .pwm => false

/-- `MIN_p`, `MAX_p`, `TH_p`. -/
def calib (c : Config) : Proto → Calib
  | .crsf => c.calCrsf
  | .sbus => c.calSbus
  | .ibus => c.calIbus
  | .ppm => c.calPpm
  | .pwm => c.calPwm

/-- `N_p`, the channel count (10_state.md rule R27); `N_live` of 44_control_readout.md rule R244. -/
def nChannels (c : Config) : Proto → Nat
  | .crsf => c.fixed.nCrsf
  | .sbus => c.fixed.nSbus
  | .ibus => c.fixed.nIbus
  | .ppm => c.nPpm
  | .pwm => c.nPwm

/-- `FT_p`; the pulse protocols have no frame timeout (00_scope.md rule R7). -/
def frameTimeout (c : Config) : Proto → Option Nat
  | .crsf => some c.ftCrsf
  | .sbus => some c.ftSbus
  | .ibus => some c.ftIbus
  | .ppm => none
  | .pwm => none

/-- `LT_p`; `LT_PWM` is the per-channel pulse timeout (00_scope.md rule R7). -/
def linkTimeout (c : Config) : Proto → Nat
  | .crsf => c.ltCrsf
  | .sbus => c.ltSbus
  | .ibus => c.ltIbus
  | .ppm => c.ltPpm
  | .pwm => c.ltPwm

/-- `MIN_p < MAX_p` and `MAX_p + TH_p ≤ 65535` (00_scope.md rule R8). -/
def calibLegal (k : Calib) : Bool := decide (k.min < k.max) && decide (k.max + k.th ≤ 65535)

/-- The constraints of 00_scope.md rule R8, one by one; `0 ≤ TH_p` and `RESET_PROTO ∈ {0..4}` hold by their types. The last
line: each parameter to which rule R7 gives one value has it (log 2). -/
def configChecks (c : Config) : List Bool :=
  [1 ≤ c.nPpm, c.nPpm ≤ 16, 1 ≤ c.nPwm, c.nPwm ≤ 16,
   calibLegal c.calCrsf, calibLegal c.calSbus, calibLegal c.calIbus, calibLegal c.calPpm, calibLegal c.calPwm,
   c.ftCrsf < 2 ^ 31, c.ftSbus < 2 ^ 31, c.ftIbus < 2 ^ 31,
   c.ltCrsf < 2 ^ 31, c.ltSbus < 2 ^ 31, c.ltIbus < 2 ^ 31, c.ltPpm < 2 ^ 31, c.ltPwm < 2 ^ 31,
   1 ≤ c.ppmSyncUs, c.ppmSyncUs ≤ 65535,
   c.fixed = {}]

/-- A parameter choice is legal only if it meets every constraint of 00_scope.md rule R8 and has the values rule R7 fixes. -/
def configLegal (c : Config) : Bool := (configChecks c).all id

/-! Checksums (40_checksum.md). -/

/-- `xor_step` (rule R112). -/
def xorStep (a b : Byte) : Byte := a ^^^ b

/-- `sub_step` (rule R113). -/
def subStep (a : Half) (b : Byte) : Half := a - b.setWidth 16

/-- One of the 8 rounds of `crc_step` (rule R114). -/
def crcRound (a : Byte) : Byte :=
  if a.getLsbD 7 then (a <<< 1) ^^^ 0xD5 else a <<< 1

/-- `crc_step` (rule R114). -/
def crcStep (a b : Byte) : Byte := Nat.repeat crcRound 8 (a ^^^ b)

/-- `xorChecksum`, `ibusChecksum16` and `crc8_d5`: folds from the initial values (rules R111 to R114). -/
def xorChecksum (bs : List Byte) : Byte := bs.foldl xorStep 0x00
def ibusChecksum16 (bs : List Byte) : Half := bs.foldl subStep 0xFFFF
def crc8D5 (bs : List Byte) : Byte := bs.foldl crcStep 0x00

/-! The channel unpacker (41_unpack_normalize.md). -/

/-- `Σ_{j < n} f(j) << j`. -/
def sumBits (f : Nat → Bool) : Nat → Nat
  | 0 => 0
  | n + 1 => sumBits f n + (if f n then 2 ^ n else 0)

/-- `bit(k)`, bit `k` of the packed stream (rule R130). -/
def streamBit (B : Nat → Byte) (off k : Nat) : Bool := (B (off + k / 8)).getLsbD (k % 8)

/-- `unpack(B, off, n)[i]` by its normative definition (rule R130). -/
def unpack (B : Nat → Byte) (off i : Nat) : Nat := sumBits (fun j => streamBit B off (11 * i + j)) 11

/-- The byte arithmetic of rule R131, with the low byte shifted right (90_conflicts.md C1). -/
def unpackByBytes (B : Nat → Byte) (off i : Nat) : Nat :=
  let byteIndex := off + 11 * i / 8
  let bitIn := 11 * i % 8
  let v := ((B byteIndex).toNat >>> bitIn) ||| ((B (byteIndex + 1)).toNat <<< (8 - bitIn))
  let v := if 5 < bitIn then v ||| ((B (byteIndex + 2)).toNat <<< (16 - bitIn)) else v
  v &&& 0x7FF

/-- `ibus_raw(B, i)` (rule R134), the little-endian field at byte `2 + 2i` (20_memory.md rule R62). -/
def ibusRaw (B : Nat → Byte) (i : Nat) : Nat := (B (2 + 2 * i)).toNat ||| ((B (3 + 2 * i)).toNat <<< 8)

/-! The normalizer (41_unpack_normalize.md). -/

/-- `clamp(v, lo, hi)` (00_scope.md rule R10). -/
def clamp (v lo hi : Nat) : Nat := min (max v lo) hi

/-- `normalize(raw, p)` for the calibration of `p` (rules R135, R136): the zero test, the band test, the clamp, then
multiply, divide, offset. `raw < MIN_p - TH_p` is on integers, so it is written `raw + TH_p < MIN_p`. -/
def normalizeNat (f : FixedParams) (k : Calib) (raw : Nat) : Nat :=
  if raw = 0 then 0
  else if raw + k.th < k.min then 0
  else if k.max + k.th < raw then 0
  else (clamp raw k.min k.max - k.min) * f.outRange / (k.max - k.min) + f.outMin

/-- The channel value `CH[i]` holds for a raw sample. -/
def normalize (c : Config) (p : Proto) (raw : Nat) : Half := BitVec.ofNat 16 (normalizeNat c.fixed (calib c p) raw)

end Sys2Proof.Machine
end

