-- ==== Sys2Proof/Machine/Arrive.lean ====
section
/-! DEFINITION. What the ports deliver: the sampling of a transfer (00_scope.md rule R14) and the order of the ports
(20_memory.md rule R69). -/

namespace Sys2Proof.Machine

/-- The state in which a command transfer is processed: its port and `now_ms` are sampled, `rest` is still to come. -/
def State.sampleCommand (s : State) (c : CommandTransfer) (rest : List Arrival) : State :=
  { s with arrivals := rest, port := .command, nowMs := c.nowMs }

/-- The state in which an edge transfer is processed: its port and `edge_ts_us` are sampled, `rest` is still to come. -/
def State.sampleEdge (s : State) (e : EdgeTransfer) (rest : List Arrival) : State :=
  { s with arrivals := rest, port := .edge, edgeTsUs := e.edgeTsUs }

/-- The state after `rst` has been asserted, `rest` still to come (70_reset_and_hazards.md rule R290): every field at its
reset value, no response driven, whatever transaction was in progress. -/
def State.sampleReset (s : State) (rest : List Arrival) : State :=
  { s.assertReset with arrivals := rest, rst := true }

/-- The state after `rst` has been released, `rest` still to come (70_reset_and_hazards.md rule R293). -/
def State.releaseReset (s : State) (rest : List Arrival) : State :=
  { s with arrivals := rest, rst := false }

/-- A transfer offered while `rst` is asserted is not processed: no field changes and no response is driven
(70_reset_and_hazards.md rule R290; log 16). -/
def State.skipTransfer (s : State) (rest : List Arrival) : State :=
  { s with arrivals := rest }

/-- A transaction's effect, which it has only while `rst` is not asserted. -/
def State.unlessReset (s : State) (rest : List Arrival) (effect : Host.Outcome State Fault Refusal) :
    Host.Outcome State Fault Refusal :=
  if s.rst then .next (s.skipTransfer rest) else effect

/-- The arrival of a word on the port its opcode belongs to, with the time input as it stands (log 7). -/
def arrivalOf (s : State) (w : Word) : Arrival :=
  if opField w = 0x3 then .edge ⟨w, s.edgeTsUs⟩ else .command ⟨w, s.nowMs⟩

end Sys2Proof.Machine
end

