-- ==== Sys2Proof/Machine/ByteDecoder.lean ====
section
/-! DEFINITION. The byte-protocol frame-state machine (42_byte_decoders.md): RXB, and the watchdogs UPD runs under a byte
protocol. -/

namespace Sys2Proof.Machine

/-- `FrameWatchdog(now)` (rule R152). -/
def frameWatchdog (now : Word) (s : State) : State :=
  match frameTimeout s.cfg s.proto with
  | none => s
  | some ft =>
    if s.fsm ≠ .idle ∧ expired now s.tFrame ft = true then (s.toIdle).withStatus .timeout else s

/-- `LinkWatchdog(now)` (rules R172, R173, R176); under PPM the same text is `PpmLinkWatchdog(now)` (43_pulse_decoders.md
rule R215). -/
def linkWatchdog (now : Word) (s : State) : State :=
  if expired now s.tValid (linkTimeout s.cfg s.proto) then s.loseLink else s

/-- `BUF[0] <- b; IDX <- 1; T_FRAME <- now` (rule R153). -/
def State.startFrame (s : State) (b : Byte) (now : Word) : State :=
  { s with buf := s.buf.write 0 b, idx := 1, tFrame := now }

/-- `IdleByte(b, now)` (rules R153, R154). -/
def idleByte (b : Byte) (now : Word) (s : State) : State :=
  match s.proto with
  | .crsf => if b = s.cfg.fixed.syncCrsf then { s.startFrame b now with fsm := .haveSync } else s
  | .sbus => if b = s.cfg.fixed.syncSbus then { s.startFrame b now with flen := s.cfg.fixed.sbusLen, fsm := .collecting } else s
  | .ibus => if b = s.cfg.fixed.hdr1Ibus then { s.startFrame b now with flen := s.cfg.fixed.ibusLen, fsm := .haveSync } else s
  | .ppm => s
  | .pwm => s

/-- `LengthByte(b, now)` (rules R155, R157). -/
def lengthByte (b : Byte) (now : Word) (s : State) : State :=
  if s.cfg.fixed.crsfLenMin ≤ b.toNat ∧ b.toNat ≤ s.cfg.fixed.crsfLenMax then
    { s with buf := s.buf.write 1 b, idx := 2, flen := b.toNat + 2, fsm := .collecting }
  else idleByte b now ((s.withStatus .badLen).toIdle)

/-- `HeaderByte2(b, now)` (rules R156, R157). -/
def headerByte2 (b : Byte) (now : Word) (s : State) : State :=
  if b = s.cfg.fixed.hdr2Ibus then { s with buf := s.buf.write 1 b, idx := 2, fsm := .collecting }
  else idleByte b now ((s.withStatus .badHdr).toIdle)

/-- `[normalize(raw[i], p) for i = 0..15]` with the raw values unpacked from byte `off` of the buffer (rules R162, R164). -/
def unpackedChannels (s : State) (p : Proto) (off : Nat) : Vector Half chEntries :=
  Vector.ofFn fun i => normalize s.cfg p (unpack s.buf.byteAt off i.val)

/-- `[normalize(ibus_raw(BUF, i), IBUS) for i = 0..13] ++ [0, 0]` (rule R168). -/
def ibusChannels (s : State) : Vector Half chEntries :=
  Vector.ofFn fun i => if i.val < s.cfg.fixed.nIbus then normalize s.cfg .ibus (ibusRaw s.buf.byteAt i.val) else 0

/-- The check of a CRSF frame over `BUF[2..L]` (rules R161, R174). -/
def crsfCheckOf (s : State) (l : Nat) : Byte :=
  match s.cfg.crsfCheck with
  | .crc8 => crc8D5 (s.buf.slice 2 (l - 1))
  | .xor => xorChecksum (s.buf.slice 2 (l - 1))

/-- `CompleteCRSF(now)` (rules R161 to R163, R170). -/
def completeCrsf (now : Word) (s : State) : State :=
  let l := (s.buf.byteAt 1).toNat
  if crsfCheckOf s l ≠ s.buf.byteAt (l + 1) then s.withStatus .badCk
  else if s.buf.byteAt 2 = s.cfg.fixed.crsfTypeRc ∧ l = s.cfg.fixed.crsfRcLen then s.accept (unpackedChannels s .crsf 3) now
  else s.withStatus .okIgn

/-- `CompleteSBUS(now)` (rules R164 to R166, R170) with `SbusFailsafe()` (rule R165). -/
def completeSbus (now : Word) (s : State) : State :=
  if s.buf.byteAt 24 ≠ s.cfg.fixed.footerSbus then s.withStatus .badFoot
  else if s.buf.byteAt s.cfg.fixed.sbusFsByte &&& s.cfg.fixed.sbusFsMask ≠ 0 then s.loseLink.withStatus .failsafe
  else s.accept (unpackedChannels s .sbus 1) now

/-- `CompleteIBUS(now)` (rules R167, R168, R170). -/
def completeIbus (now : Word) (s : State) : State :=
  let r : Half := (s.buf.byteAt 31) ++ (s.buf.byteAt 30)
  if ibusChecksum16 (s.buf.slice 0 30) ≠ r then s.withStatus .badCk
  else s.accept (ibusChannels s) now

/-- `Complete(now)` (rule R160): the protocol's check and acceptance, then always `Idle`. A CRSF length byte whose frame
ends past `BUF[63]`, which no run holds (20_memory.md rule R75), stops the machine (log 8). -/
def complete (now : Word) (s : State) : Host.Outcome State Fault Refusal :=
  match s.proto with
  | .crsf =>
    if (s.buf.byteAt 1).toNat + 1 < s.cfg.fixed.frameBuf then .next (completeCrsf now s).toIdle else .fault .bufferRange
  | .sbus => .next (completeSbus now s).toIdle
  | .ibus => .next (completeIbus now s).toIdle
  | .ppm => .next s.toIdle
  | .pwm => .next s.toIdle

/-- `BUF[IDX] <- b; IDX <- IDX + 1` (rule R158). -/
def State.appendByte (s : State) (b : Byte) : State :=
  { s with buf := s.buf.write s.idx b, idx := s.idx + 1 }

/-- `CollectByte(b, now)` (rule R158): the overflow guard, the append, the completion test (rule R159). -/
def collectByte (b : Byte) (now : Word) (s : State) : Host.Outcome State Fault Refusal :=
  if s.cfg.fixed.frameBuf ≤ s.idx then .next ((s.withStatus .overflow).toIdle)
  else if s.idx + 1 = s.flen then complete now (s.appendByte b)
  else .next (s.appendByte b)

/-- The byte's own state of RXB (rule R151), after the watchdog. -/
def examineByte (b : Byte) (now : Word) (s : State) : Host.Outcome State Fault Refusal :=
  match s.fsm with
  | .idle => .next (idleByte b now s)
  | .haveSync => if s.proto = .crsf then .next (lengthByte b now s) else .next (headerByte2 b now s)
  | .collecting => collectByte b now s

/-- One received byte under the live protocol (rules R151, R175). -/
def receiveByte (b : Byte) (now : Word) (s : State) : Host.Outcome State Fault Refusal :=
  if isByteProto s.proto then examineByte b now (frameWatchdog now s) else .next s

/-- RXB (rule R151). -/
def execRxb (b : Byte) (s : State) : Host.Outcome State Fault Refusal :=
  onCommandPort s (receiveByte b s.nowMs (s.respond false 0))

end Sys2Proof.Machine
end

