-- ==== Sys2Proof/Machine/Checksum.lean ====
section
/-! DEFINITION. The checksum-unit transactions CKI, CKF and CKR (40_checksum.md rules R116 to R118). -/

namespace Sys2Proof.Machine

/-- CKI (rule R116): the addressed accumulator takes its initial value. -/
def execCki (u : CkUnit) (s : State) : Host.Outcome State Fault Refusal :=
  onCommandPort s <|
    match u with
    | .xor => .next ({ s with accXor := 0x00 }.respond false 0)
    | .sub16 => .next ({ s with accSub := 0xFFFF }.respond false 0)
    | .crc8 => .next ({ s with accCrc := 0x00 }.respond false 0)
    | .reserved => .next s.refuseWord

/-- CKF (rule R117): the addressed accumulator takes one step of its fold. -/
def execCkf (u : CkUnit) (b : Byte) (s : State) : Host.Outcome State Fault Refusal :=
  onCommandPort s <|
    match u with
    | .xor => .next ({ s with accXor := xorStep s.accXor b }.respond false 0)
    | .sub16 => .next ({ s with accSub := subStep s.accSub b }.respond false 0)
    | .crc8 => .next ({ s with accCrc := crcStep s.accCrc b }.respond false 0)
    | .reserved => .next s.refuseWord

/-- CKR (rule R118): the addressed accumulator is the response. -/
def execCkr (u : CkUnit) (s : State) : Host.Outcome State Fault Refusal :=
  onCommandPort s <|
    match u with
    | .xor => .next (s.respond false (s.accXor.setWidth 16))
    | .sub16 => .next (s.respond false s.accSub)
    | .crc8 => .next (s.respond false (s.accCrc.setWidth 16))
    | .reserved => .next s.refuseWord

end Sys2Proof.Machine
end

