-- ==== Sys2Proof/Machine/Flags.lean ====
section
/-! DEFINITION. The flags and views a transaction reads: the fault aggregations (44_control_readout.md rules R245 to R247)
and the `STATUS` word (10_state.md rule R39, 44_control_readout.md rule R248). The block has no condition codes (10_state.md
rule R38). -/

namespace Sys2Proof.Machine

/-- `FAULT[i]`. -/
def State.faultOf (s : State) (i : Nat) : Bool := entry s.chFault true i

/-- `FAULT[0] and ... and FAULT[N_PWM - 1]` (rule R247). -/
def State.pwmAllFaulted (s : State) : Bool := (List.range s.cfg.nPwm).all s.faultOf

/-- `FAULT[0] or ... or FAULT[N_PWM - 1]` (rule R247). -/
def State.pwmAnyFaulted (s : State) : Bool := (List.range s.cfg.nPwm).any s.faultOf

/-- A bit as a response datum, `zext_16`. -/
def bitData (b : Bool) : Half := if b then 1 else 0

/-- `UnifiedFault(CH, i)` (rule R246) and `PwmFault(CH, i)` (rule R247): a channel that does not exist is faulted. -/
def State.channelFaulted (s : State) (i : Nat) : Bool :=
  if i < nChannels s.cfg s.proto then
    match s.proto with
    | .pwm => s.faultOf i
    | .crsf => s.inputLost
    | .sbus => s.inputLost
    | .ibus => s.inputLost
    | .ppm => s.inputLost
  else true

/-- The link status: `INPUT_LOST`, or mode ALL under PWM (10_state.md rule R39). -/
def State.linkLost (s : State) : Bool :=
  match s.proto with
  | .pwm => s.pwmAllFaulted
  | .crsf => s.inputLost
  | .sbus => s.inputLost
  | .ibus => s.inputLost
  | .ppm => s.inputLost

/-- Mode ANY (rules R246, R247). -/
def State.anyFaulted (s : State) : Bool :=
  match s.proto with
  | .pwm => s.pwmAnyFaulted
  | .crsf => s.inputLost
  | .sbus => s.inputLost
  | .ibus => s.inputLost
  | .ppm => s.inputLost

/-- The codes of `FSM` (10_state.md rule R24). -/
def Fsm.code : Fsm → BitVec 2
  | .idle => 0
  | .haveSync => 1
  | .collecting => 2

/-- The codes of `LAST_STATUS` (60_exceptions.md rule R262). -/
def Status.code : Status → BitVec 4
  | .none => 0
  | .okCh => 1
  | .okIgn => 2
  | .badLen => 3
  | .badHdr => 4
  | .badCk => 5
  | .badFoot => 6
  | .timeout => 7
  | .overflow => 8
  | .failsafe => 9

/-- `STATUS`: bits 15:12 zero, 11:8 `LAST_STATUS`, 7:6 zero, 5 `LOST`, 4:3 `FSM`, 2:0 `PROTO` (rule R248). -/
def State.statusWord (s : State) : Half :=
  (0#4) ++ s.lastStatus.code ++ (0#2) ++ BitVec.ofBool s.linkLost ++ s.fsm.code ++ s.proto.code

end Sys2Proof.Machine
end

