-- ==== Sys2Proof/Machine/Control.lean ====
section
/-! DEFINITION. The control and readout transactions NOP, SEL, RDCH, RDFLT and RDST (44_control_readout.md) and the reserved
opcodes (30_encoding.md rule R91). -/

namespace Sys2Proof.Machine

/-- NOP (rule R240). -/
def execNop (s : State) : Host.Outcome State Fault Refusal :=
  onCommandPort s (.next (s.respond false 0))

/-- SEL (rules R241 to R243). -/
def execSel (p : ProtoSel) (s : State) : Host.Outcome State Fault Refusal :=
  onCommandPort s <|
    match p with
    | .proto p => .next ({ s.resetDecoder with proto := p }.respond false (p.code.setWidth 16))
    | .reserved _ => .next s.refuseWord

/-- RDCH (rule R244). -/
def execRdch (i : Nat) (s : State) : Host.Outcome State Fault Refusal :=
  onCommandPort s <|
    if i < nChannels s.cfg s.proto then .next (s.respond false (entry s.ch 0 i)) else .next (s.respond false 0)

/-- RDFLT (rules R245 to R247). -/
def execRdflt (q : FaultQuery) (s : State) : Host.Outcome State Fault Refusal :=
  onCommandPort s <|
    match q with
    | .all => .next (s.respond false (bitData s.linkLost))
    | .any => .next (s.respond false (bitData s.anyFaulted))
    | .channel i => .next (s.respond false (bitData (s.channelFaulted i)))
    | .reserved => .next s.refuseWord

/-- RDST (rule R248). -/
def execRdst (s : State) : Host.Outcome State Fault Refusal :=
  onCommandPort s (.next (s.respond false s.statusWord))

/-- Reserved opcode 0xB (30_encoding.md rules R91, R94). -/
def execReservedB (s : State) : Host.Outcome State Fault Refusal := onCommandPort s (.next s.refuseWord)

/-- Reserved opcode 0xC. -/
def execReservedC (s : State) : Host.Outcome State Fault Refusal := onCommandPort s (.next s.refuseWord)

/-- Reserved opcode 0xD. -/
def execReservedD (s : State) : Host.Outcome State Fault Refusal := onCommandPort s (.next s.refuseWord)

/-- Reserved opcode 0xE. -/
def execReservedE (s : State) : Host.Outcome State Fault Refusal := onCommandPort s (.next s.refuseWord)

/-- Reserved opcode 0xF. -/
def execReservedF (s : State) : Host.Outcome State Fault Refusal := onCommandPort s (.next s.refuseWord)

end Sys2Proof.Machine
end

