-- ==== Sys2Proof/Machine/PulseDecoder.lean ====
section
/-! DEFINITION. The pulse-protocol edge accumulator and timeouts (43_pulse_decoders.md): EDGE, and UPD under every protocol. -/

namespace Sys2Proof.Machine

/-- The slot's width for an elapsed time: saturated at 0xFFFF (rules R203, R217). -/
def saturateWidth (w : Nat) : Half := BitVec.ofNat 16 (min w 0xFFFF)

/-- PWM rising edge on an existing channel (rule R202). -/
def pwmRise (ch : Nat) (ts : Word) (s : State) : State :=
  { s with riseTs := setEntry s.riseTs ch ts, riseValid := setEntry s.riseValid ch true }

/-- PWM falling edge on an existing channel (rule R203). -/
def pwmFall (ch : Nat) (ts : Word) (s : State) : State :=
  if entry s.riseValid false ch then
    let w := elapsed ts (entry s.riseTs 0 ch)
    let s1 := { s with riseValid := setEntry s.riseValid ch false }
    if w ≠ 0 then { s1 with slot := setEntry s1.slot ch (saturateWidth w) } else s1
  else s

/-- `PwmEdge(ch, lvl, ts)` (rules R202 to R204). -/
def pwmEdge (ch : Nat) (lvl : Level) (ts : Word) (s : State) : State :=
  if ch < s.cfg.nPwm then
    match lvl with
    | .rising => pwmRise ch ts s
    | .falling => pwmFall ch ts s
  else s

/-- `PpmSync()` (rule R207). -/
def ppmSync (s : State) : State :=
  let s1 :=
    if s.ppmSynced = true ∧ s.ppmIdx = s.cfg.nPpm then { s with ppmFrame := true, lastStatus := .okCh }
    else if s.ppmSynced = true then s.withStatus .badLen
    else s
  { s1 with ppmSynced := true, ppmIdx := 0 }

/-- `PpmInterval(d)` (rules R208, R209); unsynchronised, the interval is ignored. -/
def ppmInterval (d : Nat) (s : State) : State :=
  if s.ppmSynced then
    if s.ppmIdx < s.cfg.nPpm then
      let s1 := if d ≠ 0 then { s with slot := setEntry s.slot s.ppmIdx (BitVec.ofNat 16 d) } else s
      { s1 with ppmIdx := s1.ppmIdx + 1 }
    else if s.ppmIdx = s.cfg.nPpm then { s with ppmSynced := false, lastStatus := .overflow }
    else s
  else s

/-- `PpmEdge(0, 1, ts)` (rule R206). -/
def ppmRise (ts : Word) (s : State) : State :=
  let s1 :=
    if s.ppmHavePrev then
      let d := elapsed ts s.ppmPrev
      if s.cfg.ppmSyncUs ≤ d then ppmSync s else ppmInterval d s
    else s
  { s1 with ppmPrev := ts, ppmHavePrev := true }

/-- `PpmEdge(ch, lvl, ts)`: only rising edges on channel 0 are used (rule R205). -/
def ppmEdge (ch : Nat) (lvl : Level) (ts : Word) (s : State) : State :=
  match lvl with
  | .rising => if ch = 0 then ppmRise ts s else s
  | .falling => s

/-- The transition under the live protocol (rules R201, R216). -/
def captureEdge (ch : Nat) (lvl : Level) (ts : Word) (s : State) : State :=
  match s.proto with
  | .pwm => pwmEdge ch lvl ts s
  | .ppm => ppmEdge ch lvl ts s
  | .crsf => s
  | .sbus => s
  | .ibus => s

/-- EDGE (rule R201). -/
def execEdge (ch : Nat) (lvl : Level) (s : State) : Host.Outcome State Fault Refusal :=
  onEdgePort s (.next (captureEdge ch lvl s.edgeTsUs s))

/-- `PwmConsume(ch, now)` (rule R211). -/
def pwmConsume (now : Word) (ch : Nat) (s : State) : State :=
  let w := entry s.slot 0 ch
  if w ≠ 0 then
    let v := normalize s.cfg .pwm w.toNat
    let s1 := { s with slot := setEntry s.slot ch 0, ch := setEntry s.ch ch v }
    if v ≠ 0 then
      { s1 with tPulse := setEntry s1.tPulse ch now, chFault := setEntry s1.chFault ch false }
    else s1
  else s

/-- `PwmTimeout(ch, now)` (rule R212). -/
def pwmTimeout (now : Word) (ch : Nat) (s : State) : State :=
  if expired now (entry s.tPulse 0 ch) (linkTimeout s.cfg .pwm) then
    { s with chFault := setEntry s.chFault ch true, ch := setEntry s.ch ch 0 }
  else s

/-- `PwmUpdate(now)` (rule R210). -/
def pwmUpdate (now : Word) (s : State) : State :=
  forChannels s.cfg.nPwm (fun ch s => pwmTimeout now ch (pwmConsume now ch s)) s

/-- `PpmConsume(ch)` (rule R214). -/
def ppmConsume (ch : Nat) (s : State) : State :=
  let w := entry s.slot 0 ch
  if w ≠ 0 then
    let s1 := { s with slot := setEntry s.slot ch 0 }
    if s.inputLost then s1
    else { s1 with ch := setEntry s1.ch ch (normalize s.cfg .ppm w.toNat) }
  else s

/-- The first line of `PpmUpdate(now)`: a completed frame is the link-alive event (rule R213). -/
def ppmTakeFrame (now : Word) (s : State) : State :=
  if s.ppmFrame then { s with ppmFrame := false, tValid := now, inputLost := false } else s

/-- `PpmUpdate(now)` (rules R213, R215). -/
def ppmUpdate (now : Word) (s : State) : State :=
  linkWatchdog now (forChannels s.cfg.nPpm ppmConsume (ppmTakeFrame now s))

/-- The update tick under the live protocol (42_byte_decoders.md rule R171). -/
def updateTick (now : Word) (s : State) : State :=
  match s.proto with
  | .crsf => linkWatchdog now (frameWatchdog now s)
  | .sbus => linkWatchdog now (frameWatchdog now s)
  | .ibus => linkWatchdog now (frameWatchdog now s)
  | .ppm => ppmUpdate now s
  | .pwm => pwmUpdate now s

/-- UPD (42_byte_decoders.md rule R171). -/
def execUpd (s : State) : Host.Outcome State Fault Refusal :=
  onCommandPort s (.next (updateTick s.nowMs (s.respond false 0)))

end Sys2Proof.Machine
end

