-- ==== Sys2Proof/Machine/Dispatch.lean ====
section
/-! DEFINITION. One arm per constructor of `Instr`. -/

namespace Sys2Proof.Machine

/-- The effect of one transaction on the block: a function of the state before it, the word and the time input sampled with
it, which the state holds (20_memory.md rule R66). -/
def exec (i : Instr) (s : State) : Host.Outcome State Fault Refusal :=
  match i with
  | .nop => Sys2Proof.Machine.execNop s
  | .rxb data => Sys2Proof.Machine.execRxb data s
  | .upd => Sys2Proof.Machine.execUpd s
  | .edge ch lvl => Sys2Proof.Machine.execEdge ch lvl s
  | .sel p => Sys2Proof.Machine.execSel p s
  | .cki u => Sys2Proof.Machine.execCki u s
  | .ckf u data => Sys2Proof.Machine.execCkf u data s
  | .ckr u => Sys2Proof.Machine.execCkr u s
  | .rdch k => Sys2Proof.Machine.execRdch k s
  | .rdflt q => Sys2Proof.Machine.execRdflt q s
  | .rdst => Sys2Proof.Machine.execRdst s
  | .reservedB => Sys2Proof.Machine.execReservedB s
  | .reservedC => Sys2Proof.Machine.execReservedC s
  | .reservedD => Sys2Proof.Machine.execReservedD s
  | .reservedE => Sys2Proof.Machine.execReservedE s
  | .reservedF => Sys2Proof.Machine.execReservedF s

end Sys2Proof.Machine
end

