-- ==== Sys2Proof/Machine/Step.lean ====
section
/-! DEFINITION. One step: the next transaction in the block's serialised order (20_memory.md rules R66, R69, R70). -/

namespace Sys2Proof.Machine

/-- Process the oldest arrival. Of an edge and a command in the same cycle the edge word is applied first (rule R69). With
nothing arrived the block holds its state (00_scope.md rule R17, 60_exceptions.md rule R275). A configuration that breaks
00_scope.md rule R8 is rejected (log 3). While `rst` is asserted no transaction is processed (70_reset_and_hazards.md rule
R290). -/
def step (s : State) : Host.Outcome State Fault Refusal :=
  if configLegal s.cfg then
    match s.arrivals with
    | [] => .next s
    | .assertRst _ :: rest => .next (s.sampleReset rest)
    | .releaseRst :: rest => .next (s.releaseReset rest)
    | .command c :: rest => s.unlessReset rest (exec (decode c.word) (s.sampleCommand c rest))
    | .edge e :: rest => s.unlessReset rest (exec (decode e.word) (s.sampleEdge e rest))
    | .both e c :: rest => s.unlessReset rest (exec (decode e.word) (s.sampleEdge e (.command c :: rest)))
  else .fault .configRejected

/-- The state in which `rst` is released and the word of a table row is the next transaction to arrive, on the port of its
row (log 7). -/
def State.withFetchWord (s : State) (nbits w : Nat) : State :=
  { s with rst := false, arrivals := arrivalOf s (BitVec.ofNat 32 (w % 2 ^ nbits)) :: s.arrivals }

end Sys2Proof.Machine
end

