-- ==== Sys2Proof/Safety.lean ====
section
/-! DEFINITION. What a sound state of the block is: the spec's own invariants, in the terms the claims use. -/

namespace Sys2Proof.Machine

/-- The shape of a frame being collected (10_state.md rule R26, 20_memory.md rules R74, R75): bytes are outstanding, and
`FLEN` is the protocol's total. -/
def State.Collecting (s : State) : Prop :=
  s.idx < s.flen ∧ s.flen ≤ s.cfg.fixed.frameBuf ∧
  match s.proto with
  | .crsf => 2 ≤ s.idx ∧ s.cfg.fixed.crsfLenMin ≤ (s.buf.byteAt 1).toNat ∧
      (s.buf.byteAt 1).toNat ≤ s.cfg.fixed.crsfLenMax ∧ s.flen = (s.buf.byteAt 1).toNat + 2
  | .sbus => 1 ≤ s.idx ∧ s.flen = s.cfg.fixed.sbusLen
  | .ibus => 2 ≤ s.idx ∧ s.flen = s.cfg.fixed.ibusLen
  | .ppm => False
  | .pwm => False

/-- The pulse fields stand at their reset values (10_state.md rule R45, under a byte protocol). -/
def State.PulseFieldsAtReset (s : State) : Prop :=
  s.riseTs = Vector.replicate chEntries 0 ∧ s.riseValid = Vector.replicate chEntries false ∧
  s.slot = Vector.replicate chEntries 0 ∧ s.tPulse = Vector.replicate chEntries 0 ∧
  s.chFault = Vector.replicate chEntries true ∧
  s.ppmPrev = 0 ∧ s.ppmHavePrev = false ∧ s.ppmIdx = 0 ∧ s.ppmSynced = false ∧ s.ppmFrame = false

/-- The frame-assembly fields stand at their reset values (10_state.md rule R45, under PPM and PWM). -/
def State.FrameFieldsAtReset (s : State) : Prop :=
  s.fsm = .idle ∧ s.idx = 0 ∧ s.flen = 0 ∧ s.buf = [] ∧ s.tFrame = 0

/-- The states a run reaches: the spec's invariants over one state. -/
structure State.Inv (s : State) : Prop where
  /-- 00_scope.md rules R7, R8. -/
  legal : configLegal s.cfg = true
  /-- The frame buffer keeps its canonical form inside `BUF[0..63]` (20_memory.md rule R60). -/
  memory : s.buf.wf = true
  /-- "`IDX = 0` whenever `FSM = Idle`" (10_state.md rule R26). -/
  idle : s.fsm = .idle → s.idx = 0
  /-- `HaveSync` holds one byte, under CRSF, or under IBUS with its length set (42_byte_decoders.md rule R153). -/
  haveSync : s.fsm = .haveSync → s.idx = 1 ∧ (s.proto = .crsf ∨ s.proto = .ibus ∧ s.flen = s.cfg.fixed.ibusLen)
  /-- "`IDX ≤ FLEN ≤ FRAME_BUF` whenever `FSM = Collecting`" (10_state.md rule R26). -/
  collecting : s.fsm = .collecting → s.Collecting
  /-- `FLEN` is 0..64 (10_state.md rule R26). -/
  flen : s.flen ≤ s.cfg.fixed.frameBuf
  /-- Each entry is 0 or lies in `[OUT_MIN, OUT_MAX]` (10_state.md rule R27). -/
  channelRange : ∀ i, (entry s.ch 0 i).toNat = 0 ∨
    s.cfg.fixed.outMin ≤ (entry s.ch 0 i).toNat ∧ (entry s.ch 0 i).toNat ≤ s.cfg.fixed.outMax
  /-- "Entries `i ≥ N_p` stay 0" (10_state.md rule R27). -/
  unusedChannels : ∀ i, nChannels s.cfg s.proto ≤ i → entry s.ch 0 i = 0
  /-- "No channel value outlives the link" (42_byte_decoders.md rule R173). -/
  lostLink : s.proto ≠ .pwm → s.inputLost = true → s.ch = Vector.replicate chEntries 0
  /-- The same per channel under PWM (43_pulse_decoders.md rules R211, R212). -/
  faultedChannel : s.proto = .pwm → ∀ i, s.faultOf i = true → entry s.ch 0 i = 0
  /-- `PPM_IDX` counts at most `N_PPM` intervals (10_state.md rule R37, 43_pulse_decoders.md rules R208, R209). -/
  ppmIdx : s.ppmIdx ≤ s.cfg.nPpm
  /-- 10_state.md rule R45, under a byte protocol. -/
  byteFields : isByteProto s.proto = true → s.PulseFieldsAtReset
  /-- 10_state.md rule R45, under PPM and PWM. -/
  pulseFields : isByteProto s.proto = false → s.FrameFieldsAtReset
  /-- 10_state.md rule R45, under PWM. -/
  pwmFields : s.proto = .pwm → s.inputLost = true ∧ s.tValid = 0
  /-- 10_state.md rule R45, under PPM. -/
  ppmFields : s.proto = .ppm → s.riseTs = Vector.replicate chEntries 0 ∧ s.riseValid = Vector.replicate chEntries false ∧
    s.tPulse = Vector.replicate chEntries 0 ∧ s.chFault = Vector.replicate chEntries true
  /-- While `rst` is asserted every field holds its reset value (70_reset_and_hazards.md rule R290). -/
  rstHeld : s.rst = true → s.assertReset = s

/-- The bits of a word its transaction's row uses (30_encoding.md rules R83, R90; 44_control_readout.md rule R245: `IDX` of
RDFLT in mode CH only). -/
def usedBits (w : Word) : Word :=
  match (w.extractLsb' 28 4).toNat with
  | 1 => 0xF00000FF
  | 3 => 0xF000FF01
  | 4 => 0xF7000000
  | 5 => 0xF3000000
  | 6 => 0xF30000FF
  | 7 => 0xF3000000
  | 8 => 0xF000FF00
  | 9 => if (w.extractLsb' 24 2).toNat = 2 then 0xF300FF00 else 0xF3000000
  | _ => 0xF0000000

/-- The words of 30_encoding.md rules R91 and R93: refused on the command port (60_exceptions.md rule R264). -/
def RefusedOnCommandPort : Instr → Prop
  | .edge _ _ => True
  | .sel (.reserved _) => True
  | .cki .reserved => True
  | .ckf .reserved _ => True
  | .ckr .reserved => True
  | .rdflt .reserved => True
  | .reservedB => True
  | .reservedC => True
  | .reservedD => True
  | .reservedE => True
  | .reservedF => True
  | _ => False

/-- Transactions processed one after another on the port and at the time the state holds. -/
def runAll : List Instr → State → Host.Outcome State Fault Refusal
  | [], s => .next s
  | i :: rest, s =>
    match exec i s with
    | .next t => runAll rest t
    | .fault r => .fault r
    | .refused r => .refused r

/-- Received bytes, each an RXB with its own `now_ms` (42_byte_decoders.md rule R151; the pseudo FRAME of 30_encoding.md
rule R98). -/
def receive : List (Byte × Word) → State → Host.Outcome State Fault Refusal
  | [], s => .next s
  | (b, now) :: rest, s =>
    match exec (.rxb b) { s with nowMs := now } with
    | .next t => receive rest t
    | .fault r => .fault r
    | .refused r => .refused r

/-- The accumulated bytes of one checksum unit in a sequence of transactions. -/
def bytesFedTo (u : CkUnit) : List Instr → List Byte
  | [] => []
  | .ckf v b :: rest => if v = u then b :: bytesFedTo u rest else bytesFedTo u rest
  | _ :: rest => bytesFedTo u rest

/-- The `k`-th byte of `pack(v)` (41_unpack_normalize.md rule R133): stream bit `11i + j` is bit `j` of `v[i]`. -/
def packedByte (v : Nat → Nat) (k : Nat) : Byte :=
  BitVec.ofNat 8 (sumBits (fun b => (v ((8 * k + b) / 11)).testBit ((8 * k + b) % 11)) 8)

/-- The check byte of a CRSF frame over type and payload (42_byte_decoders.md rules R161, R174). -/
def crsfCheckByte (c : Config) (bs : List Byte) : Byte :=
  match c.crsfCheck with
  | .crc8 => crc8D5 bs
  | .xor => xorChecksum bs

/-- The bytes of a valid channel frame (30_encoding.md rules R85 to R87; an SBUS frame's failsafe bit is clear). -/
def ChannelFrame (c : Config) (p : Proto) (f : List Byte) : Prop :=
  match p with
  | .crsf => ∃ payload : List Byte, payload.length = 22 ∧
      f = [0xC8, 0x18, 0x16] ++ payload ++ [crsfCheckByte c (0x16 :: payload)]
  | .sbus => ∃ (payload : List Byte) (flags : Byte), payload.length = 22 ∧ flags.getLsbD 3 = false ∧
      f = [0x0F] ++ payload ++ [flags, 0x00]
  | .ibus => ∃ payload : List Byte, payload.length = 28 ∧
      f = [0x20, 0x40] ++ payload ++
        [(ibusChecksum16 ([0x20, 0x40] ++ payload)).extractLsb' 0 8, (ibusChecksum16 ([0x20, 0x40] ++ payload)).extractLsb' 8 8]
  | .ppm => False
  | .pwm => False

/-- The channel value an accepted frame gives entry `i` (42_byte_decoders.md rules R162, R164, R168). -/
def frameChannel (c : Config) (p : Proto) (f : List Byte) (i : Nat) : Half :=
  match p with
  | .crsf => normalize c .crsf (unpack (fun a => f.getD a 0) 3 i)
  | .sbus => normalize c .sbus (unpack (fun a => f.getD a 0) 1 i)
  | .ibus => if i < 14 then normalize c .ibus (ibusRaw (fun a => f.getD a 0) i) else 0
  | .ppm => 0
  | .pwm => 0

/-- `n` steps, ending at the first fault or refusal. -/
def stepMany : Nat → State → Host.Outcome State Fault Refusal
  | 0, s => .next s
  | n + 1, s =>
    match step s with
    | .next t => stepMany n t
    | .fault r => .fault r
    | .refused r => .refused r

/-- A run is safe when no step of it stops the block (60_exceptions.md rule R260). -/
def SafeRun (n : Nat) (s : State) : Prop := ∃ t : State, stepMany n s = .next t

end Sys2Proof.Machine
end

