-- ==== Sys2Proof/Certificates/Slice0/Obligations.lean ====
section
/-! DEFINITION. The statements for the provers, in the order of OBLIGATIONS.json. -/

open Sys2Proof Sys2Proof.Machine

/-! ## Encoding -/

/-- Decoding the word of a well-formed transaction gives it back (30_encoding.md sections 2, 4, 7). -/
def Obligations.DecodeEncodeRoundTrip : Prop :=
  ∀ i : Instr, i.wellFormed = true → decode (encode i) = i

/-- The decoder is total on all 2^32 words and gives operands that fit their fields (30_encoding.md section 5). -/
def Obligations.DecodedWordsAreWellFormed : Prop :=
  ∀ w : Word, (decode w).wellFormed = true

/-- 30_encoding.md rule R92: the bits a row does not use have no effect on state or response. -/
def Obligations.UnusedBitsHaveNoEffect : Prop :=
  ∀ (w w' : Word) (s : State), w &&& usedBits w = w' &&& usedBits w → exec (decode w) s = exec (decode w') s

/-- Words written out in 30_encoding.md section 8 and 95_test_vectors.md sections 2 and 3 decode to the transactions they
stand for there. -/
def Obligations.SpecWordsDecode : Prop :=
  decode 0x62000016 = .ckf .crc8 0x16 ∧ decode 0x30000300 = .edge 3 .falling ∧ decode 0x30000201 = .edge 2 .rising ∧
  decode 0x100000C8 = .rxb 0xC8 ∧ decode 0x20000000 = .upd ∧ decode 0x41000000 = .sel (.proto .sbus) ∧
  decode 0x4C000000 = .sel (.proto .pwm) ∧ decode 0x51000000 = .cki .sub16 ∧ decode 0x72000000 = .ckr .crc8 ∧
  decode 0x80000500 = .rdch 5 ∧ decode 0x92000E00 = .rdflt (.channel 14) ∧ decode 0x95000000 = .rdflt .any ∧
  decode 0xA0000000 = .rdst ∧ decode 0xB0000000 = .reservedB ∧ decode 0x0FFFFFFF = .nop

/-! ## The step, reset and configuration -/

/-- While `rst` is not asserted a step runs the decoded word of the oldest transfer, in the state that has sampled the
transfer's port and time (00_scope.md section 5, 20_memory.md section 4); while it is asserted, the transfer is passed over;
asserting it resets the block, whatever it cuts off, and releasing it changes nothing else (70_reset_and_hazards.md sections 1
and 2); with nothing arrived the block holds its state (60_exceptions.md section 7). The queue of arrivals and the idle step
are the model's (log 4), and so are the arrivals that assert and release `rst` and that a passed over transfer is gone
(log 16). -/
def Obligations.StepRunsTheDecodedWord : Prop :=
  ∀ s : State, configLegal s.cfg = true →
    (∀ c rest, s.arrivals = .command c :: rest →
      step s = if s.rst then .next { s with arrivals := rest }
        else exec (decode c.word) { s with arrivals := rest, port := .command, nowMs := c.nowMs }) ∧
    (∀ e rest, s.arrivals = .edge e :: rest →
      step s = if s.rst then .next { s with arrivals := rest }
        else exec (decode e.word) { s with arrivals := rest, port := .edge, edgeTsUs := e.edgeTsUs }) ∧
    (∀ e c rest, s.arrivals = .both e c :: rest →
      step s = if s.rst then .next { s with arrivals := rest }
        else exec (decode e.word)
          { s with arrivals := .command c :: rest, port := .edge, edgeTsUs := e.edgeTsUs }) ∧
    (∀ cut rest, s.arrivals = .assertRst cut :: rest →
      step s = .next { s.assertReset with arrivals := rest, rst := true }) ∧
    (∀ rest, s.arrivals = .releaseRst :: rest → step s = .next { s with arrivals := rest, rst := false }) ∧
    (s.arrivals = [] → step s = .next s)

/-- Of an edge word and a command word in the same cycle the edge word is applied first, and the command sees its effects
(20_memory.md section 5). -/
def Obligations.SameCycleEdgeIsAppliedFirst : Prop :=
  ∀ (s t : State) (e : EdgeTransfer) (c : CommandTransfer) (rest : List Arrival),
    s.arrivals = .both e c :: rest → s.rst = false → step s = .next t →
    exec (decode e.word) { s with arrivals := .command c :: rest, port := .edge, edgeTsUs := e.edgeTsUs } = .next t ∧
    step t = exec (decode c.word) { t with arrivals := rest, port := .command, nowMs := c.nowMs }

/-- 10_state.md rule R44 and 70_reset_and_hazards.md rule R290: every field's value after `rst` is asserted, from every state
and under every legal configuration; a transaction in progress then has no effect and its response is not driven; and while
`rst` is asserted no transaction is processed: a transfer that is offered changes no field and no response. Nothing is said of
what becomes of the queue of arrivals, which is the model's (log 4), nor of whether the offered transfer is lost or held back
(log 16, in `StepRunsTheDecodedWord`). -/
def Obligations.ResetInputLoadsEveryField : Prop :=
  ∀ (s : State) (rest : List Arrival), configLegal s.cfg = true →
    (∀ cut : InProgress, s.arrivals = .assertRst cut :: rest →
      ∃ t, step s = .next t ∧ t.proto = s.cfg.resetProto ∧ t.fsm = .idle ∧ (∀ a, t.buf.byteAt a = 0) ∧
        t.idx = 0 ∧ t.flen = 0 ∧ (∀ i < 16, entry t.ch 1 i = 0) ∧ t.tFrame = 0 ∧ t.tValid = 0 ∧ t.inputLost = true ∧
        t.lastStatus.code = 0 ∧ t.accXor = 0x00 ∧ t.accSub = 0xFFFF ∧ t.accCrc = 0x00 ∧
        (∀ i < 16, entry t.riseTs 1 i = 0 ∧ entry t.riseValid true i = false ∧ entry t.slot 1 i = 0 ∧
          entry t.tPulse 1 i = 0 ∧ entry t.chFault false i = true) ∧
        t.ppmPrev = 0 ∧ t.ppmHavePrev = false ∧ t.ppmIdx = 0 ∧ t.ppmSynced = false ∧ t.ppmFrame = false ∧
        t.rst = true ∧ t.responses = s.responses) ∧
    (s.rst = true →
      ((∃ c, s.arrivals = .command c :: rest) ∨ (∃ e, s.arrivals = .edge e :: rest) ∨
        ∃ e c, s.arrivals = .both e c :: rest) →
      ∃ t, step s = .next t ∧ t = { s with arrivals := t.arrivals })

/-- The machine's reset state is the one asserting and releasing `rst` leaves under the default parameters, with nothing
arrived and no response driven (70_reset_and_hazards.md sections 1 and 2; the defaults are the model's choice of configuration,
log 1; the empty queue log 4, the sampled inputs log 6, the empty response list log 5, that `rst` is released log 16). -/
def Obligations.ResetStateIsTheResetInputsState : Prop :=
  ∀ (s : State) (cut : InProgress), s.cfg = Config.default →
    ∃ t, stepMany 2 { s with arrivals := [.assertRst cut, .releaseRst] } = .next t ∧
      { t with port := .command, nowMs := 0, edgeTsUs := 0, responses := [] } = State.reset

/-- A step rejects a configuration exactly when it breaks a constraint of 00_scope.md section 4 or has another value for a
parameter to which that section gives one value (log 2; log 3: the spec says a model should refuse it; that the step faults is
93_implementation_defined.md I10). -/
def Obligations.OnlyIllegalConfigurationsAreRejected : Prop :=
  ∀ s : State, step s = .fault .configRejected ↔
    ¬ (1 ≤ s.cfg.nPpm ∧ s.cfg.nPpm ≤ 16 ∧ 1 ≤ s.cfg.nPwm ∧ s.cfg.nPwm ≤ 16 ∧
      (∀ p, (calib s.cfg p).min < (calib s.cfg p).max ∧ (calib s.cfg p).max + (calib s.cfg p).th ≤ 65535) ∧
      (∀ p ft, frameTimeout s.cfg p = some ft → ft < 2 ^ 31) ∧ (∀ p, linkTimeout s.cfg p < 2 ^ 31) ∧
      1 ≤ s.cfg.ppmSyncUs ∧ s.cfg.ppmSyncUs ≤ 65535 ∧
      s.cfg.fixed =
        { nchMax := 16, nCrsf := 16, nSbus := 16, nIbus := 14, syncCrsf := 0xC8, syncSbus := 0x0F, footerSbus := 0x00,
          hdr1Ibus := 0x20, hdr2Ibus := 0x40, crsfLenMin := 3, crsfLenMax := 62, frameBuf := 64, sbusLen := 25, ibusLen := 32,
          crsfTypeRc := 0x16, crsfRcLen := 24, sbusFsByte := 23, sbusFsMask := 0x08, outMin := 1000, outMax := 2000,
          outRange := 1000, nowMsBits := 32, edgeTsUsBits := 32 })

/-! ## Ports and responses -/

/-- 30_encoding.md rule R91: EDGE on the command port and the opcodes 0xB to 0xF (RESERVED_B to RESERVED_F) change no state
and answer `(1, 0)`. -/
def Obligations.ReservedOpcodesAnswerAnError : Prop :=
  ∀ (s : State) (w : Word), s.port = .command → (w.extractLsb' 28 4 = 0x3 ∨ 0xB ≤ (w.extractLsb' 28 4).toNat) →
    exec (decode w) s = .next { s with responses := s.responses ++ [⟨true, 0⟩] }

/-- 30_encoding.md rule R93: the reserved sub-values of SEL, CKI, CKF, CKR and RDFLT change no state and answer `(1, 0)`. -/
def Obligations.ReservedSubValuesAnswerAnError : Prop :=
  ∀ (s : State) (w : Word), s.port = .command →
    (w.extractLsb' 28 4 = 0x4 ∧ 5 ≤ (w.extractLsb' 24 3).toNat ∨
      (w.extractLsb' 28 4 = 0x5 ∨ w.extractLsb' 28 4 = 0x6 ∨ w.extractLsb' 28 4 = 0x7) ∧ w.extractLsb' 24 2 = 0x3 ∨
      w.extractLsb' 28 4 = 0x9 ∧ w.extractLsb' 24 2 = 0x3) →
    exec (decode w) s = .next { s with responses := s.responses ++ [⟨true, 0⟩] }

/-- 30_encoding.md rule R94: a word on the edge port whose `OP` is not 0x3 changes no state and produces no response. -/
def Obligations.EdgePortIgnoresOtherWords : Prop :=
  ∀ (s : State) (w : Word), s.port = .edge → w.extractLsb' 28 4 ≠ 0x3 → exec (decode w) s = .next s

/-- 60_exceptions.md rule R264, with 30_encoding.md section 1: a command word produces exactly one response and an edge word
none; `rsp_err` is 1 exactly for the refused words, and a refused word writes no state. -/
def Obligations.OneResponseForEachCommand : Prop :=
  ∀ (i : Instr) (s t : State), exec i s = .next t →
    (s.port = .edge → t.responses = s.responses) ∧
    (s.port = .command → ∃ r : Response, t.responses = s.responses ++ [r] ∧
      (r.err = true ↔ RefusedOnCommandPort i) ∧
      (r.err = true → r.data = 0 ∧ t = { s with responses := s.responses ++ [⟨true, 0⟩] }))

/-! ## NOP, SEL and readout -/

/-- 44_control_readout.md rule R240: NOP answers `(0, 0)` and writes no state, whatever its ignored bits. -/
def Obligations.NopAnswersAndWritesNothing : Prop :=
  ∀ (s : State) (w : Word), s.port = .command → w.extractLsb' 28 4 = 0x0 →
    exec (decode w) s = .next { s with responses := s.responses ++ [⟨false, 0⟩] }

/-- 44_control_readout.md rules R241 and R242: SEL of a protocol code below 5 makes it live, sets every decoder field to its
reset value, answers the code and leaves the accumulators alone. -/
def Obligations.SelConstructsTheDecoder : Prop :=
  ∀ (s : State) (w : Word), s.port = .command → w.extractLsb' 28 4 = 0x4 → (w.extractLsb' 24 3).toNat < 5 →
    ∃ p : Proto, p.code = w.extractLsb' 24 3 ∧
      exec (decode w) s = .next
        { s with
          proto := p, fsm := .idle, idx := 0, flen := 0, tFrame := 0, buf := []
          ch := Vector.replicate 16 0, tValid := 0, inputLost := true, lastStatus := .none
          riseTs := Vector.replicate 16 0, riseValid := Vector.replicate 16 false, slot := Vector.replicate 16 0
          tPulse := Vector.replicate 16 0, chFault := Vector.replicate 16 true
          ppmPrev := 0, ppmHavePrev := false, ppmIdx := 0, ppmSynced := false, ppmFrame := false
          responses := s.responses ++ [⟨false, (w.extractLsb' 24 3).setWidth 16⟩] }

/-- The state after reset equals the state after SEL of `RESET_PROTO` issued to a block whose accumulators are at their
initial values (70_reset_and_hazards.md section 1), the response apart. -/
def Obligations.ResetEqualsSelectingTheResetProtocol : Prop :=
  ∀ s : State, s.port = .command → s.accXor = 0x00 → s.accSub = 0xFFFF → s.accCrc = 0x00 →
    exec (.sel (.proto s.cfg.resetProto)) s =
      .next { s.assertReset with responses := s.responses ++ [⟨false, s.cfg.resetProto.code.setWidth 16⟩] }

/-- 44_control_readout.md rule R244: RDCH answers `CH[i]` below the live channel count and 0 above it, and writes nothing. -/
def Obligations.RdchReadsALiveChannel : Prop :=
  ∀ (s : State) (w : Word), s.port = .command → w.extractLsb' 28 4 = 0x8 →
    exec (decode w) s = .next
      { s with
        responses := s.responses ++
          [⟨false, if (w.extractLsb' 8 8).toNat < nChannels s.cfg s.proto then entry s.ch 0 (w.extractLsb' 8 8).toNat else 0⟩] }

/-- 44_control_readout.md rule R246: under CRSF, SBUS, IBUS and PPM the three fault queries read `INPUT_LOST`, and a channel
that does not exist is faulted. -/
def Obligations.UnifiedFaultQuery : Prop :=
  ∀ (s : State) (w : Word), s.port = .command → s.proto ≠ .pwm → w.extractLsb' 28 4 = 0x9 → w.extractLsb' 24 2 ≠ 0x3 →
    ∃ f : Bool, exec (decode w) s = .next { s with responses := s.responses ++ [⟨false, if f then 1 else 0⟩] } ∧
      ((w.extractLsb' 24 2 = 0x0 ∨ w.extractLsb' 24 2 = 0x1) → f = s.inputLost) ∧
      (w.extractLsb' 24 2 = 0x2 →
        f = if (w.extractLsb' 8 8).toNat < nChannels s.cfg s.proto then s.inputLost else true)

/-- 44_control_readout.md rule R247: under PWM the fault queries are AND, OR and index lookup over `FAULT[0..N_PWM-1]`. -/
def Obligations.PwmFaultQuery : Prop :=
  ∀ (s : State) (w : Word), s.port = .command → s.proto = .pwm → w.extractLsb' 28 4 = 0x9 → w.extractLsb' 24 2 ≠ 0x3 →
    ∃ f : Bool, exec (decode w) s = .next { s with responses := s.responses ++ [⟨false, if f then 1 else 0⟩] } ∧
      (w.extractLsb' 24 2 = 0x0 → (f = true ↔ ∀ k < s.cfg.nPwm, entry s.chFault true k = true)) ∧
      (w.extractLsb' 24 2 = 0x1 → (f = true ↔ ∃ k < s.cfg.nPwm, entry s.chFault true k = true)) ∧
      (w.extractLsb' 24 2 = 0x2 →
        f = if (w.extractLsb' 8 8).toNat < s.cfg.nPwm then entry s.chFault true (w.extractLsb' 8 8).toNat else true)

/-- 10_state.md rule R39 and 44_control_readout.md rule R248: the status word RDST answers, field by field; nothing is
written. -/
def Obligations.RdstAssemblesTheStatusWord : Prop :=
  ∀ (s : State) (w : Word), s.port = .command → w.extractLsb' 28 4 = 0xA →
    ∃ d : Half, exec (decode w) s = .next { s with responses := s.responses ++ [⟨false, d⟩] } ∧
      d.extractLsb' 0 3 = s.proto.code ∧ d.extractLsb' 3 2 = s.fsm.code ∧ d.extractLsb' 6 2 = 0 ∧
      d.extractLsb' 8 4 = s.lastStatus.code ∧ d.extractLsb' 12 4 = 0 ∧
      (s.proto ≠ .pwm → d.getLsbD 5 = s.inputLost) ∧
      (s.proto = .pwm → (d.getLsbD 5 = true ↔ ∀ k < s.cfg.nPwm, entry s.chFault true k = true))

/-! ## Checksum units -/

/-- 40_checksum.md rule R116: CKI sets the addressed accumulator to its initial value and nothing else. -/
def Obligations.CkiInitialisesOneUnit : Prop :=
  ∀ (s : State) (w : Word), s.port = .command → w.extractLsb' 28 4 = 0x5 →
    (w.extractLsb' 24 2 = 0x0 →
      exec (decode w) s = .next { s with accXor := 0x00, responses := s.responses ++ [⟨false, 0⟩] }) ∧
    (w.extractLsb' 24 2 = 0x1 →
      exec (decode w) s = .next { s with accSub := 0xFFFF, responses := s.responses ++ [⟨false, 0⟩] }) ∧
    (w.extractLsb' 24 2 = 0x2 →
      exec (decode w) s = .next { s with accCrc := 0x00, responses := s.responses ++ [⟨false, 0⟩] }) ∧
    (w.extractLsb' 24 2 = 0x3 → exec (decode w) s = .next { s with responses := s.responses ++ [⟨true, 0⟩] })

/-- 40_checksum.md rule R117: CKF applies the addressed unit's step to its accumulator and the data byte and writes nothing
else. -/
def Obligations.CkfFeedsOneUnit : Prop :=
  ∀ (s : State) (w : Word), s.port = .command → w.extractLsb' 28 4 = 0x6 →
    (w.extractLsb' 24 2 = 0x0 → exec (decode w) s = .next
      { s with accXor := s.accXor ^^^ w.extractLsb' 0 8, responses := s.responses ++ [⟨false, 0⟩] }) ∧
    (w.extractLsb' 24 2 = 0x1 → exec (decode w) s = .next
      { s with accSub := s.accSub - (w.extractLsb' 0 8).setWidth 16, responses := s.responses ++ [⟨false, 0⟩] }) ∧
    (w.extractLsb' 24 2 = 0x2 → exec (decode w) s = .next
      { s with accCrc := crcStep s.accCrc (w.extractLsb' 0 8), responses := s.responses ++ [⟨false, 0⟩] }) ∧
    (w.extractLsb' 24 2 = 0x3 → exec (decode w) s = .next { s with responses := s.responses ++ [⟨true, 0⟩] })

/-- 40_checksum.md rule R118's transaction: CKR answers the addressed accumulator, zero extended, and writes nothing
(40_checksum.md section 2). -/
def Obligations.CkrReadsOneUnit : Prop :=
  ∀ (s : State) (w : Word), s.port = .command → w.extractLsb' 28 4 = 0x7 →
    (w.extractLsb' 24 2 = 0x0 →
      exec (decode w) s = .next { s with responses := s.responses ++ [⟨false, s.accXor.setWidth 16⟩] }) ∧
    (w.extractLsb' 24 2 = 0x1 → exec (decode w) s = .next { s with responses := s.responses ++ [⟨false, s.accSub⟩] }) ∧
    (w.extractLsb' 24 2 = 0x2 →
      exec (decode w) s = .next { s with responses := s.responses ++ [⟨false, s.accCrc.setWidth 16⟩] }) ∧
    (w.extractLsb' 24 2 = 0x3 → exec (decode w) s = .next { s with responses := s.responses ++ [⟨true, 0⟩] })

/-- Across any sequence of transactions that initialises no unit, decoder transactions and SEL included, each accumulator
becomes the fold of the bytes fed to its unit (40_checksum.md sections 1 and 2). -/
def Obligations.AccumulatorsFoldTheBytesFed : Prop :=
  ∀ (is : List Instr) (s t : State), s.port = .command → (∀ u, Instr.cki u ∉ is) → runAll is s = .next t →
    t.accXor = (bytesFedTo .xor is).foldl (· ^^^ ·) s.accXor ∧
    t.accSub = (bytesFedTo .sub16 is).foldl (fun a b => a - b.setWidth 16) s.accSub ∧
    t.accCrc = (bytesFedTo .crc8 is).foldl crcStep s.accCrc

/-- CKI, then one CKF for each byte, then CKR of one unit answers the library function of the unit over the bytes
(40_checksum.md section 2). -/
def Obligations.ChecksumSequenceAnswersTheLibraryFunction : Prop :=
  ∀ (s : State) (bs : List Byte), s.port = .command →
    (∃ t, runAll (.cki .xor :: bs.map (.ckf .xor) ++ [.ckr .xor]) s = .next t ∧
      t.responses = s.responses ++ List.replicate (bs.length + 1) ⟨false, 0⟩ ++ [⟨false, (xorChecksum bs).setWidth 16⟩]) ∧
    (∃ t, runAll (.cki .sub16 :: bs.map (.ckf .sub16) ++ [.ckr .sub16]) s = .next t ∧
      t.responses = s.responses ++ List.replicate (bs.length + 1) ⟨false, 0⟩ ++ [⟨false, ibusChecksum16 bs⟩]) ∧
    (∃ t, runAll (.cki .crc8 :: bs.map (.ckf .crc8) ++ [.ckr .crc8]) s = .next t ∧
      t.responses = s.responses ++ List.replicate (bs.length + 1) ⟨false, 0⟩ ++ [⟨false, (crc8D5 bs).setWidth 16⟩])

/-- The closed form of SUB16, the order laws of the checksums, and that two byte sequences that differ in exactly one byte
have three different checksums (40_checksum.md sections 1 and 3). -/
def Obligations.ChecksumLaws : Prop :=
  (∀ bs : List Byte, ibusChecksum16 bs = 0xFFFF - BitVec.ofNat 16 (bs.map BitVec.toNat).sum) ∧
  (∀ bs cs : List Byte, bs.Perm cs → xorChecksum bs = xorChecksum cs ∧ ibusChecksum16 bs = ibusChecksum16 cs) ∧
  (∀ (bs cs : List Byte) (b : Byte), xorChecksum (bs ++ [b, b] ++ cs) = xorChecksum (bs ++ cs)) ∧
  (∀ bs : List Byte, crc8D5 (0x00 :: bs) = crc8D5 bs) ∧
  (∀ (bs cs : List Byte) (b b' : Byte), b ≠ b' →
    crc8D5 (bs ++ b :: cs) ≠ crc8D5 (bs ++ b' :: cs) ∧
    xorChecksum (bs ++ b :: cs) ≠ xorChecksum (bs ++ b' :: cs) ∧
    ibusChecksum16 (bs ++ b :: cs) ≠ ibusChecksum16 (bs ++ b' :: cs))

/-! ## Unpacker and normalizer -/

/-- The byte arithmetic with the right-shifted low byte computes the normative unpacker, for every channel, offset and byte
array (41_unpack_normalize.md section 1). -/
def Obligations.ByteArithmeticUnpacksTheContract : Prop :=
  ∀ (B : Nat → Byte) (off i : Nat), unpackByBytes B off i = unpack B off i

/-- Unpacking is the exact inverse of packing sixteen 11-bit values, at any offset (41_unpack_normalize.md section 1). -/
def Obligations.UnpackInvertsPack : Prop :=
  ∀ (v : Nat → Nat) (B : Nat → Byte) (off : Nat), (∀ i < 16, v i < 2048) → (∀ k < 22, B (off + k) = packedByte v k) →
    ∀ i < 16, unpack B off i = v i

/-- Every unpacked value is below 2048, and the sixteen channels depend on the 22 bytes from the offset only
(41_unpack_normalize.md section 1). -/
def Obligations.UnpackReadsTwentyTwoBytes : Prop :=
  ∀ (B C : Nat → Byte) (off i : Nat), unpack B off i < 2048 ∧
    (i < 16 → (∀ k < 22, B (off + k) = C (off + k)) → unpack B off i = unpack C off i)

/-- The edges of the normalizer's band are inclusive, for every calibration rule R8 allows (41_unpack_normalize.md
section 2): the six boundary samples, the zero sample, and the samples that pass through a 1000 to 2000 calibration. -/
def Obligations.NormalizerBandEdges : Prop :=
  ∀ (c : Config) (k : Calib), configLegal c = true → k.min < k.max →
    (∀ raw : Nat, raw + k.th < k.min → normalizeNat c.fixed k raw = 0) ∧
    (∀ raw : Nat, k.max + k.th < raw → normalizeNat c.fixed k raw = 0) ∧
    (∀ raw : Nat, raw ≠ 0 → k.min ≤ raw + k.th → raw ≤ k.min → normalizeNat c.fixed k raw = 1000) ∧
    (∀ raw : Nat, raw ≠ 0 → k.max ≤ raw → raw ≤ k.max + k.th → normalizeNat c.fixed k raw = 2000) ∧
    normalizeNat c.fixed k 0 = 0 ∧
    (∀ raw : Nat, k.min = 1000 → k.max = 2000 → raw ≠ 0 → 1000 ≤ raw + k.th → raw ≤ 2000 + k.th →
      normalizeNat c.fixed k raw = min (max raw 1000) 2000)

/-- Every normalized value is 0 or lies in `[1000, 2000]`, 0 exactly for an invalid sample, and a larger valid sample never
gives a smaller value (41_unpack_normalize.md section 2). -/
def Obligations.NormalizerOutputSet : Prop :=
  ∀ (c : Config) (k : Calib) (raw : Nat), configLegal c = true → k.min < k.max →
    (normalizeNat c.fixed k raw = 0 ∨ 1000 ≤ normalizeNat c.fixed k raw ∧ normalizeNat c.fixed k raw ≤ 2000) ∧
    (normalizeNat c.fixed k raw = 0 ↔ raw = 0 ∨ raw + k.th < k.min ∨ k.max + k.th < raw) ∧
    (∀ raw' : Nat, raw ≤ raw' → normalizeNat c.fixed k raw ≠ 0 → normalizeNat c.fixed k raw' ≠ 0 →
      normalizeNat c.fixed k raw ≤ normalizeNat c.fixed k raw')

/-! ## RXB -/

/-- 42_byte_decoders.md rule R175: RXB under PPM or PWM changes no state and answers `(0, 0)`. -/
def Obligations.RxbIgnoredUnderPulseProtocols : Prop :=
  ∀ (s : State) (b : Byte), s.port = .command → (s.proto = .ppm ∨ s.proto = .pwm) →
    exec (.rxb b) s = .next { s with responses := s.responses ++ [⟨false, 0⟩] }

/-- 42_byte_decoders.md rule R152: past the frame timeout an RXB and an UPD first force `Idle` with status TIMEOUT, and then
act as they do on that state; within the timeout, or in `Idle`, an RXB examines its byte at once and an UPD leaves the frame
alone. (UPD writes `LAST_STATUS` by this rule, log 13.) -/
def Obligations.MidFrameWatchdogForcesIdle : Prop :=
  ∀ (s : State) (b : Byte) (ft : Nat), s.port = .command → frameTimeout s.cfg s.proto = some ft →
    (s.fsm ≠ .idle → ft < (s.nowMs - s.tFrame).toNat →
      exec (.rxb b) s = exec (.rxb b) { s with fsm := .idle, idx := 0, lastStatus := .timeout } ∧
      exec .upd s = exec .upd { s with fsm := .idle, idx := 0, lastStatus := .timeout }) ∧
    (s.fsm = .idle ∨ (s.nowMs - s.tFrame).toNat ≤ ft →
      exec (.rxb b) s = examineByte b s.nowMs { s with responses := s.responses ++ [⟨false, 0⟩] } ∧
      ∃ t, exec .upd s = .next t ∧ t.fsm = s.fsm ∧ t.idx = s.idx ∧ t.lastStatus = s.lastStatus)

/-- 42_byte_decoders.md rule R154: in `Idle` a byte that is not the live protocol's first sync value is discarded. -/
def Obligations.IdleDiscardsOtherBytes : Prop :=
  ∀ (s : State) (b : Byte), configLegal s.cfg = true → s.port = .command → s.fsm = .idle →
    (s.proto = .crsf ∧ b ≠ 0xC8 ∨ s.proto = .sbus ∧ b ≠ 0x0F ∨ s.proto = .ibus ∧ b ≠ 0x20) →
    exec (.rxb b) s = .next { s with responses := s.responses ++ [⟨false, 0⟩] }

/-- 42_byte_decoders.md rule R153: the first sync value starts a frame: it is stored at `BUF[0]`, stamped, and the state
machine moves on; nothing else changes. -/
def Obligations.SyncByteStartsAFrame : Prop :=
  ∀ (s : State) (b : Byte), configLegal s.cfg = true → s.port = .command → s.fsm = .idle →
    (s.proto = .crsf ∧ b = 0xC8 ∨ s.proto = .sbus ∧ b = 0x0F ∨ s.proto = .ibus ∧ b = 0x20) →
    ∃ t, exec (.rxb b) s = .next t ∧
      t = { s with buf := t.buf, idx := 1, tFrame := s.nowMs, fsm := t.fsm, flen := t.flen,
                   responses := s.responses ++ [⟨false, 0⟩] } ∧
      (∀ a, t.buf.byteAt a = if a = 0 then b else s.buf.byteAt a) ∧
      (s.proto = .crsf → t.fsm = .haveSync ∧ t.flen = s.flen) ∧
      (s.proto = .sbus → t.fsm = .collecting ∧ t.flen = 25) ∧
      (s.proto = .ibus → t.fsm = .haveSync ∧ t.flen = 32)

/-- 42_byte_decoders.md rule R155, with rule R157 for CRSF: a CRSF length byte in `[3, 62]` sets `FLEN` and starts
collecting; any other is a bad length and is examined again as an `Idle` byte. -/
def Obligations.CrsfLengthByte : Prop :=
  ∀ (s : State) (b : Byte), configLegal s.cfg = true → s.port = .command → s.proto = .crsf → s.fsm = .haveSync →
    (s.nowMs - s.tFrame).toNat ≤ s.cfg.ftCrsf →
    (3 ≤ b.toNat → b.toNat ≤ 62 → ∃ t, exec (.rxb b) s = .next t ∧
      t = { s with buf := t.buf, idx := 2, flen := b.toNat + 2, fsm := .collecting,
                   responses := s.responses ++ [⟨false, 0⟩] } ∧
      ∀ a, t.buf.byteAt a = if a = 1 then b else s.buf.byteAt a) ∧
    (b.toNat < 3 ∨ 62 < b.toNat →
      exec (.rxb b) s = exec (.rxb b) { s with lastStatus := .badLen, fsm := .idle, idx := 0 })

/-- 42_byte_decoders.md rule R156, with rule R157 for IBUS: an IBUS second header byte 0x40 starts collecting; any other is
a bad header and is examined again as an `Idle` byte. -/
def Obligations.IbusSecondHeaderByte : Prop :=
  ∀ (s : State) (b : Byte), configLegal s.cfg = true → s.port = .command → s.proto = .ibus → s.fsm = .haveSync →
    (s.nowMs - s.tFrame).toNat ≤ s.cfg.ftIbus →
    (b = 0x40 → ∃ t, exec (.rxb b) s = .next t ∧
      t = { s with buf := t.buf, idx := 2, fsm := .collecting, responses := s.responses ++ [⟨false, 0⟩] } ∧
      ∀ a, t.buf.byteAt a = if a = 1 then b else s.buf.byteAt a) ∧
    (b ≠ 0x40 → exec (.rxb b) s = exec (.rxb b) { s with lastStatus := .badHdr, fsm := .idle, idx := 0 })

/-- 42_byte_decoders.md rule R158: while collecting, a byte is appended at `IDX`, and no other byte of the buffer changes;
with the buffer full it forces `Idle` with status OVERFLOW (the completing byte has statements of its own). -/
def Obligations.CollectingAppendsOneByte : Prop :=
  ∀ (s : State) (b : Byte) (ft : Nat), configLegal s.cfg = true → s.port = .command → s.fsm = .collecting →
    frameTimeout s.cfg s.proto = some ft → (s.nowMs - s.tFrame).toNat ≤ ft →
    (s.idx < 64 → s.idx + 1 ≠ s.flen → ∃ t, exec (.rxb b) s = .next t ∧
      t = { s with buf := t.buf, idx := s.idx + 1, responses := s.responses ++ [⟨false, 0⟩] } ∧
      ∀ a, t.buf.byteAt a = if a = s.idx then b else s.buf.byteAt a) ∧
    (64 ≤ s.idx → exec (.rxb b) s = .next
      { s with lastStatus := .overflow, fsm := .idle, idx := 0, responses := s.responses ++ [⟨false, 0⟩] })

/-- The byte that completes a CRSF frame (42_byte_decoders.md section 3): the check decides first, then the type and length;
only an RC-channels frame writes the channels and the link. `B` is the buffer with the byte appended. -/
def Obligations.CrsfFrameCompletion : Prop :=
  ∀ (s : State) (b : Byte) (B : Nat → Byte),
    configLegal s.cfg = true → s.port = .command → s.proto = .crsf → s.fsm = .collecting →
    (s.nowMs - s.tFrame).toNat ≤ s.cfg.ftCrsf → s.idx < 64 → s.idx + 1 = s.flen →
    (∀ a, B a = if a = s.idx then b else s.buf.byteAt a) → (B 1).toNat ≤ 62 →
    ∃ t, exec (.rxb b) s = .next t ∧
      t = { s with buf := t.buf, fsm := .idle, idx := 0, ch := t.ch, inputLost := t.inputLost, tValid := t.tValid,
                   lastStatus := t.lastStatus, responses := s.responses ++ [⟨false, 0⟩] } ∧
      (∀ a, t.buf.byteAt a = B a) ∧
      (crsfCheckByte s.cfg ((List.range ((B 1).toNat - 1)).map fun k => B (2 + k)) ≠ B ((B 1).toNat + 1) →
        t.lastStatus = .badCk ∧ t.ch = s.ch ∧ t.inputLost = s.inputLost ∧ t.tValid = s.tValid) ∧
      (crsfCheckByte s.cfg ((List.range ((B 1).toNat - 1)).map fun k => B (2 + k)) = B ((B 1).toNat + 1) →
        (¬ (B 2 = 0x16 ∧ B 1 = 0x18) →
          t.lastStatus = .okIgn ∧ t.ch = s.ch ∧ t.inputLost = s.inputLost ∧ t.tValid = s.tValid) ∧
        (B 2 = 0x16 ∧ B 1 = 0x18 →
          t.lastStatus = .okCh ∧ t.inputLost = false ∧ t.tValid = s.nowMs ∧
          ∀ i < 16, entry t.ch 0 i = normalize s.cfg .crsf (unpack B 3 i)))

/-- The byte that completes an SBUS frame (42_byte_decoders.md section 3): footer, then failsafe bit, then the channels. -/
def Obligations.SbusFrameCompletion : Prop :=
  ∀ (s : State) (b : Byte) (B : Nat → Byte),
    configLegal s.cfg = true → s.port = .command → s.proto = .sbus → s.fsm = .collecting →
    (s.nowMs - s.tFrame).toNat ≤ s.cfg.ftSbus → s.idx < 64 → s.idx + 1 = s.flen →
    (∀ a, B a = if a = s.idx then b else s.buf.byteAt a) →
    ∃ t, exec (.rxb b) s = .next t ∧
      t = { s with buf := t.buf, fsm := .idle, idx := 0, ch := t.ch, inputLost := t.inputLost, tValid := t.tValid,
                   lastStatus := t.lastStatus, responses := s.responses ++ [⟨false, 0⟩] } ∧
      (∀ a, t.buf.byteAt a = B a) ∧
      (B 24 ≠ 0x00 → t.lastStatus = .badFoot ∧ t.ch = s.ch ∧ t.inputLost = s.inputLost ∧ t.tValid = s.tValid) ∧
      (B 24 = 0x00 → (B 23).getLsbD 3 = true →
        t.lastStatus = .failsafe ∧ t.ch = Vector.replicate 16 0 ∧ t.inputLost = true ∧ t.tValid = s.tValid) ∧
      (B 24 = 0x00 → (B 23).getLsbD 3 = false →
        t.lastStatus = .okCh ∧ t.inputLost = false ∧ t.tValid = s.nowMs ∧
        ∀ i < 16, entry t.ch 0 i = normalize s.cfg .sbus (unpack B 1 i))

/-- The byte that completes an IBUS frame (42_byte_decoders.md section 3): the 16-bit check over bytes 0 to 29, then 14
channels; entries 14 and 15 are written 0. -/
def Obligations.IbusFrameCompletion : Prop :=
  ∀ (s : State) (b : Byte) (B : Nat → Byte),
    configLegal s.cfg = true → s.port = .command → s.proto = .ibus → s.fsm = .collecting →
    (s.nowMs - s.tFrame).toNat ≤ s.cfg.ftIbus → s.idx < 64 → s.idx + 1 = s.flen →
    (∀ a, B a = if a = s.idx then b else s.buf.byteAt a) →
    ∃ t, exec (.rxb b) s = .next t ∧
      t = { s with buf := t.buf, fsm := .idle, idx := 0, ch := t.ch, inputLost := t.inputLost, tValid := t.tValid,
                   lastStatus := t.lastStatus, responses := s.responses ++ [⟨false, 0⟩] } ∧
      (∀ a, t.buf.byteAt a = B a) ∧
      ((ibusChecksum16 ((List.range 30).map B)).toNat ≠ (B 30).toNat + 256 * (B 31).toNat →
        t.lastStatus = .badCk ∧ t.ch = s.ch ∧ t.inputLost = s.inputLost ∧ t.tValid = s.tValid) ∧
      ((ibusChecksum16 ((List.range 30).map B)).toNat = (B 30).toNat + 256 * (B 31).toNat →
        t.lastStatus = .okCh ∧ t.inputLost = false ∧ t.tValid = s.nowMs ∧
        (∀ i < 14, entry t.ch 0 i = normalize s.cfg .ibus ((B (2 + 2 * i)).toNat + 256 * (B (3 + 2 * i)).toNat)) ∧
        entry t.ch 1 14 = 0 ∧ entry t.ch 1 15 = 0)

/-- A whole valid channel frame, received from `Idle` with every byte inside the frame timeout of its sync byte, is accepted:
the channels are the frame's own, the link is alive, `T_VALID` is the time of the last byte (42_byte_decoders.md sections 2
and 3, 30_encoding.md section 3). -/
def Obligations.WholeFrameIsDecoded : Prop :=
  ∀ (s : State) (f : List Byte) (times : List Word) (ft : Nat),
    configLegal s.cfg = true → s.port = .command → s.fsm = .idle →
    ChannelFrame s.cfg s.proto f → frameTimeout s.cfg s.proto = some ft →
    times.length = f.length → (∀ t ∈ times, (t - times.headD 0).toNat ≤ ft) →
    ∃ t, receive (f.zip times) s = .next t ∧
      t = { s with buf := t.buf, idx := 0, flen := f.length, ch := t.ch, tFrame := times.headD 0,
                   tValid := times.getLastD 0, inputLost := false, lastStatus := .okCh, nowMs := times.getLastD 0,
                   responses := s.responses ++ List.replicate f.length ⟨false, 0⟩ } ∧
      ∀ i < 16, entry t.ch 0 i = frameChannel s.cfg s.proto f i

/-- Resynchronization (42_byte_decoders.md section 5, 70_reset_and_hazards.md section 4): a byte X between two frames does not
stop the second from being accepted, for every X under CRSF and IBUS and for every X but 0x0F under SBUS. The block is `Idle`
after the first frame, so the statement begins there. -/
def Obligations.FrameAfterAStrayByteIsDecoded : Prop :=
  ∀ (s : State) (x : Byte) (tx : Word) (f : List Byte) (times : List Word) (ft : Nat),
    configLegal s.cfg = true → s.port = .command → s.fsm = .idle →
    ChannelFrame s.cfg s.proto f → (s.proto = .sbus → x ≠ 0x0F) → frameTimeout s.cfg s.proto = some ft →
    times.length = f.length → (∀ t ∈ times, (t - times.headD 0).toNat ≤ ft) →
    ∃ t, receive ((x, tx) :: f.zip times) s = .next t ∧ t.fsm = .idle ∧ t.idx = 0 ∧ t.inputLost = false ∧
      t.tValid = times.getLastD 0 ∧ t.lastStatus = .okCh ∧ ∀ i < 16, entry t.ch 0 i = frameChannel s.cfg s.proto f i

/-! ## UPD -/

/-- Under a byte protocol UPD runs the two watchdogs (42_byte_decoders.md sections 2, 4 and 5: the mid-frame watchdog of rule
R152, the link watchdog of rule R172, UPD itself rule R171, strictness rule R176); the link watchdog sets `INPUT_LOST` and
zeroes the channels, the mid-frame watchdog forces `Idle` with status TIMEOUT, and nothing else changes. That UPD writes
`LAST_STATUS` follows rules R152 and R171 where 10_state.md rules R31 and R41 leave UPD out (log 13). -/
def Obligations.UpdRunsTheByteWatchdogs : Prop :=
  ∀ (s : State) (ft : Nat), s.port = .command → frameTimeout s.cfg s.proto = some ft →
    ∃ t, exec .upd s = .next t ∧
      t = { s with fsm := t.fsm, idx := t.idx, lastStatus := t.lastStatus, inputLost := t.inputLost, ch := t.ch,
                   responses := s.responses ++ [⟨false, 0⟩] } ∧
      (linkTimeout s.cfg s.proto < (s.nowMs - s.tValid).toNat →
        t.inputLost = true ∧ t.ch = Vector.replicate 16 0) ∧
      ((s.nowMs - s.tValid).toNat ≤ linkTimeout s.cfg s.proto → t.inputLost = s.inputLost ∧ t.ch = s.ch) ∧
      (s.fsm ≠ .idle ∧ ft < (s.nowMs - s.tFrame).toNat → t.fsm = .idle ∧ t.idx = 0 ∧ t.lastStatus = .timeout) ∧
      (s.fsm = .idle ∨ (s.nowMs - s.tFrame).toNat ≤ ft →
        t.fsm = s.fsm ∧ t.idx = s.idx ∧ t.lastStatus = s.lastStatus)

/-- 43_pulse_decoders.md rules R210, R211 and R212: under PWM UPD treats each existing channel alone: it consumes the slot,
then tests the timeout; channels that do not exist, and every other field, are unchanged. -/
def Obligations.UpdConvertsEachPwmChannel : Prop :=
  ∀ s : State, s.port = .command → s.proto = .pwm → s.cfg.nPwm ≤ 16 →
    ∃ t, exec .upd s = .next t ∧
      t = { s with slot := t.slot, ch := t.ch, tPulse := t.tPulse, chFault := t.chFault,
                   responses := s.responses ++ [⟨false, 0⟩] } ∧
      (∀ k, s.cfg.nPwm ≤ k → entry t.slot 0 k = entry s.slot 0 k ∧ entry t.ch 0 k = entry s.ch 0 k ∧
        entry t.tPulse 0 k = entry s.tPulse 0 k ∧ entry t.chFault true k = entry s.chFault true k) ∧
      ∀ k < s.cfg.nPwm, ∀ (v : Half) (stamp : Word),
        v = normalize s.cfg .pwm (entry s.slot 0 k).toNat → stamp = (if v ≠ 0 then s.nowMs else entry s.tPulse 0 k) →
        entry t.slot 0 k = 0 ∧ entry t.tPulse 0 k = stamp ∧
        (s.cfg.ltPwm < (s.nowMs - stamp).toNat → entry t.ch 0 k = 0 ∧ entry t.chFault true k = true) ∧
        ((s.nowMs - stamp).toNat ≤ s.cfg.ltPwm →
          entry t.ch 0 k = (if entry s.slot 0 k ≠ 0 then v else entry s.ch 0 k) ∧
          entry t.chFault true k = (if v ≠ 0 then false else entry s.chFault true k))

/-- 43_pulse_decoders.md rules R213, R214 and R215: under PPM UPD consumes the frame flag, then the slots (discarded while the
link is lost), then runs the link watchdog; nothing else changes. -/
def Obligations.UpdConsumesPpmFrames : Prop :=
  ∀ (s : State) (lost : Bool) (stamp : Word), s.port = .command → s.proto = .ppm → s.cfg.nPpm ≤ 16 →
    lost = (if s.ppmFrame then false else s.inputLost) → stamp = (if s.ppmFrame then s.nowMs else s.tValid) →
    ∃ t, exec .upd s = .next t ∧
      t = { s with ppmFrame := false, tValid := stamp, inputLost := t.inputLost, slot := t.slot, ch := t.ch,
                   responses := s.responses ++ [⟨false, 0⟩] } ∧
      (∀ k, entry t.slot 0 k = if k < s.cfg.nPpm then 0 else entry s.slot 0 k) ∧
      (s.cfg.ltPpm < (s.nowMs - stamp).toNat → t.inputLost = true ∧ t.ch = Vector.replicate 16 0) ∧
      ((s.nowMs - stamp).toNat ≤ s.cfg.ltPpm → t.inputLost = lost ∧
        ∀ k, entry t.ch 0 k =
          if k < s.cfg.nPpm ∧ entry s.slot 0 k ≠ 0 ∧ lost = false then normalize s.cfg .ppm (entry s.slot 0 k).toNat
          else entry s.ch 0 k)

/-! ## EDGE -/

/-- 43_pulse_decoders.md rules R204, R205 and R216: an EDGE on a PWM channel that does not exist, a PPM edge on another
channel or falling, and an EDGE under a byte protocol change no state. -/
def Obligations.IgnoredEdgesChangeNothing : Prop :=
  ∀ (s : State) (ch : Nat) (lvl : Level), s.port = .edge →
    (s.proto = .pwm ∧ s.cfg.nPwm ≤ ch ∨ s.proto = .ppm ∧ (ch ≠ 0 ∨ lvl = .falling) ∨
      (s.proto = .crsf ∨ s.proto = .sbus ∨ s.proto = .ibus)) →
    exec (.edge ch lvl) s = .next s

/-- 43_pulse_decoders.md rules R202 and R203: under PWM a rising edge stamps its channel; a falling edge with a rise pending
stores the elapsed width, saturated at 0xFFFF and never 0; no other channel and no other field changes. -/
def Obligations.PwmEdgesMeasureThePulse : Prop :=
  ∀ (s : State) (ch : Nat) (w : Nat), s.port = .edge → s.proto = .pwm → ch < s.cfg.nPwm → s.cfg.nPwm ≤ 16 →
    w = (s.edgeTsUs - entry s.riseTs 0 ch).toNat →
    (∃ t, exec (.edge ch .rising) s = .next t ∧ t = { s with riseTs := t.riseTs, riseValid := t.riseValid } ∧
      ∀ k, entry t.riseTs 0 k = (if k = ch then s.edgeTsUs else entry s.riseTs 0 k) ∧
        entry t.riseValid false k = (if k = ch then true else entry s.riseValid false k)) ∧
    (∃ t, exec (.edge ch .falling) s = .next t ∧ t = { s with riseValid := t.riseValid, slot := t.slot } ∧
      ∀ k, entry t.riseValid false k = (if k = ch then false else entry s.riseValid false k) ∧
        (entry t.slot 0 k).toNat =
          if k = ch ∧ entry s.riseValid false ch = true ∧ w ≠ 0 then min w 65535 else (entry s.slot 0 k).toNat)

/-- 43_pulse_decoders.md rules R206 to R209: under PPM a rising edge on channel 0 closes an interval: the first only stamps;
a sync gap completes a frame of exactly `N_PPM` intervals or reports a short one; a shorter interval fills the next slot, or
overruns and desynchronises; nothing else changes. -/
def Obligations.PpmEdgesAssembleTheFrame : Prop :=
  ∀ (s : State) (d : Nat), s.port = .edge → s.proto = .ppm → s.cfg.nPpm ≤ 16 → s.cfg.ppmSyncUs ≤ 65535 →
    d = (s.edgeTsUs - s.ppmPrev).toNat →
    ∃ t, exec (.edge 0 .rising) s = .next t ∧
      t = { s with ppmPrev := s.edgeTsUs, ppmHavePrev := true, ppmSynced := t.ppmSynced, ppmIdx := t.ppmIdx,
                   ppmFrame := t.ppmFrame, lastStatus := t.lastStatus, slot := t.slot } ∧
      (s.ppmHavePrev = false → t.ppmSynced = s.ppmSynced ∧ t.ppmIdx = s.ppmIdx ∧ t.ppmFrame = s.ppmFrame ∧
        t.lastStatus = s.lastStatus ∧ t.slot = s.slot) ∧
      (s.ppmHavePrev = true → s.cfg.ppmSyncUs ≤ d →
        t.ppmSynced = true ∧ t.ppmIdx = 0 ∧ t.slot = s.slot ∧
        (s.ppmSynced = true → s.ppmIdx = s.cfg.nPpm → t.ppmFrame = true ∧ t.lastStatus = .okCh) ∧
        (s.ppmSynced = true → s.ppmIdx ≠ s.cfg.nPpm → t.ppmFrame = s.ppmFrame ∧ t.lastStatus = .badLen) ∧
        (s.ppmSynced = false → t.ppmFrame = s.ppmFrame ∧ t.lastStatus = s.lastStatus)) ∧
      (s.ppmHavePrev = true → d < s.cfg.ppmSyncUs → t.ppmFrame = s.ppmFrame ∧
        (s.ppmSynced = false → t.ppmSynced = false ∧ t.ppmIdx = s.ppmIdx ∧ t.lastStatus = s.lastStatus ∧ t.slot = s.slot) ∧
        (s.ppmSynced = true → s.ppmIdx < s.cfg.nPpm →
          t.ppmSynced = true ∧ t.ppmIdx = s.ppmIdx + 1 ∧ t.lastStatus = s.lastStatus ∧
          ∀ k, (entry t.slot 0 k).toNat = if k = s.ppmIdx ∧ d ≠ 0 then d else (entry s.slot 0 k).toNat) ∧
        (s.ppmSynced = true → s.ppmIdx = s.cfg.nPpm →
          t.ppmSynced = false ∧ t.ppmIdx = s.ppmIdx ∧ t.lastStatus = .overflow ∧ t.slot = s.slot))

/-! ## Whole-machine rules -/

/-- Who may write each field (10_state.md section 8). `LAST_STATUS` may also be written by an UPD under a byte protocol, as
42_byte_decoders.md rule R171 says and the table of section 8 leaves out (log 13). -/
def Obligations.OnlyTheNamedTransactionsWriteEachField : Prop :=
  ∀ (i : Instr) (s t : State), exec i s = .next t →
    (t.proto ≠ s.proto → ∃ p, i = .sel p) ∧
    (t.fsm ≠ s.fsm ∨ t.idx ≠ s.idx ∨ t.flen ≠ s.flen ∨ t.buf ≠ s.buf ∨ t.tFrame ≠ s.tFrame →
      isByteProto s.proto = true ∧ ((∃ b, i = .rxb b) ∨ i = .upd) ∨ ∃ p, i = .sel p) ∧
    (t.ch ≠ s.ch → (∃ b, i = .rxb b) ∨ i = .upd ∨ ∃ p, i = .sel p) ∧
    (t.tValid ≠ s.tValid → (∃ b, i = .rxb b) ∨ (i = .upd ∧ s.proto = .ppm) ∨ ∃ p, i = .sel p) ∧
    (t.inputLost ≠ s.inputLost → (∃ b, i = .rxb b) ∨ i = .upd ∨ ∃ p, i = .sel p) ∧
    (t.lastStatus ≠ s.lastStatus → (∃ b, i = .rxb b) ∨ (i = .upd ∧ isByteProto s.proto = true) ∨
      (s.proto = .ppm ∧ ∃ ch lvl, i = .edge ch lvl) ∨ ∃ p, i = .sel p) ∧
    (t.accXor ≠ s.accXor → i = .cki .xor ∨ ∃ b, i = .ckf .xor b) ∧
    (t.accSub ≠ s.accSub → i = .cki .sub16 ∨ ∃ b, i = .ckf .sub16 b) ∧
    (t.accCrc ≠ s.accCrc → i = .cki .crc8 ∨ ∃ b, i = .ckf .crc8 b) ∧
    (t.riseTs ≠ s.riseTs ∨ t.riseValid ≠ s.riseValid →
      (s.proto = .pwm ∧ ∃ ch lvl, i = .edge ch lvl) ∨ ∃ p, i = .sel p) ∧
    (t.slot ≠ s.slot → (∃ ch lvl, i = .edge ch lvl) ∨ i = .upd ∨ ∃ p, i = .sel p) ∧
    (t.tPulse ≠ s.tPulse ∨ t.chFault ≠ s.chFault → (i = .upd ∧ s.proto = .pwm) ∨ ∃ p, i = .sel p) ∧
    (t.ppmPrev ≠ s.ppmPrev ∨ t.ppmHavePrev ≠ s.ppmHavePrev ∨ t.ppmIdx ≠ s.ppmIdx ∨ t.ppmSynced ≠ s.ppmSynced →
      (s.proto = .ppm ∧ ∃ ch lvl, i = .edge ch lvl) ∨ ∃ p, i = .sel p) ∧
    (t.ppmFrame ≠ s.ppmFrame → (s.proto = .ppm ∧ t.ppmFrame = true ∧ ∃ ch lvl, i = .edge ch lvl) ∨
      (i = .upd ∧ s.proto = .ppm ∧ t.ppmFrame = false) ∨ ∃ p, i = .sel p)

/-- No transaction writes a parameter, takes an arrival or changes the sampled inputs or `rst` (10_state.md section 7). -/
def Obligations.TransactionsKeepParametersAndInputs : Prop :=
  ∀ (i : Instr) (s t : State), exec i s = .next t →
    t.cfg = s.cfg ∧ t.arrivals = s.arrivals ∧ t.port = s.port ∧ t.nowMs = s.nowMs ∧ t.edgeTsUs = s.edgeTsUs ∧
    t.rst = s.rst

/-- Only an accepted valid frame clears `INPUT_LOST` (10_state.md section 4): an RXB that leaves status OK_CH and stamps
`T_VALID`, or, under PPM, an UPD that consumes a completed frame. -/
def Obligations.LossIsLatchedUntilAValidFrame : Prop :=
  ∀ (i : Instr) (s t : State), exec i s = .next t → s.inputLost = true → t.inputLost = false →
    s.port = .command ∧ t.tValid = s.nowMs ∧
    ((∃ b, i = .rxb b) ∧ isByteProto s.proto = true ∧ t.lastStatus = .okCh ∨
      i = .upd ∧ s.proto = .ppm ∧ s.ppmFrame = true)

/-- `LAST_STATUS` is a debug view (60_exceptions.md section 2): changing its value changes the effect of no transaction but
RDST's response, and no field but `LAST_STATUS`. -/
def Obligations.LastStatusNeverChangesDecoding : Prop :=
  ∀ (i : Instr) (s t : State) (c : Status), i ≠ .rdst → exec i s = .next t →
    ∃ t', exec i { s with lastStatus := c } = .next t' ∧ { t' with lastStatus := t.lastStatus } = t

/-- The accumulators are independent of the decoders (40_checksum.md section 2): other accumulator values change nothing in
the effect of a transaction that is not CKI, CKF or CKR, and it leaves them as they are. -/
def Obligations.AccumulatorsAreIndependentOfDecoding : Prop :=
  ∀ (i : Instr) (s t : State) (x : Byte) (u : Half) (c : Byte),
    (∀ k, i ≠ .cki k) → (∀ k b, i ≠ .ckf k b) → (∀ k, i ≠ .ckr k) → exec i s = .next t →
    t.accXor = s.accXor ∧ t.accSub = s.accSub ∧ t.accCrc = s.accCrc ∧
    exec i { s with accXor := x, accSub := u, accCrc := c } = .next { t with accXor := x, accSub := u, accCrc := c }

/-- Snapshot consistency (44_control_readout.md section 6): while no RXB, UPD or SEL arrives and `rst` is not asserted anew, any
run leaves the channels and the link status as they were, whatever edges are interleaved. -/
def Obligations.ReadsSeeOneSnapshot : Prop :=
  ∀ (n : Nat) (s t : State),
    (∀ a ∈ s.arrivals, (∀ cut, a ≠ .assertRst cut) ∧
      ∀ c : CommandTransfer, (a = .command c ∨ ∃ e, a = .both e c) →
        c.word.extractLsb' 28 4 ≠ 0x1 ∧ c.word.extractLsb' 28 4 ≠ 0x2 ∧ c.word.extractLsb' 28 4 ≠ 0x4) →
    stepMany n s = .next t →
    t.ch = s.ch ∧ t.inputLost = s.inputLost ∧ t.chFault = s.chFault ∧ t.proto = s.proto

/-- The order of an edge and a command matters only for an UPD under a pulse protocol, a SEL, or an RDST under PPM
(60_exceptions.md section 4): in every other case both orders end in the same state, the last sampled port apart. -/
def Obligations.EdgeAndCommandCommute : Prop :=
  ∀ (s t : State) (e : EdgeTransfer) (c : CommandTransfer) (rest : List Arrival),
    ¬ (decode c.word = .upd ∧ (s.proto = .ppm ∨ s.proto = .pwm)) → (∀ p, decode c.word ≠ .sel p) →
    ¬ (decode c.word = .rdst ∧ s.proto = .ppm) →
    stepMany 2 { s with arrivals := .edge e :: .command c :: rest } = .next t →
    ∃ t', stepMany 2 { s with arrivals := .command c :: .edge e :: rest } = .next t' ∧
      { t' with port := t.port } = t

/-- The invariants hold after reset, under every legal configuration (10_state.md sections 4, 6 and 9). -/
def Obligations.ResetMeetsTheInvariants : Prop :=
  State.reset.Inv ∧ ∀ cfg : Config, configLegal cfg = true → (State.resetWith cfg).Inv

/-- Every step keeps the invariants (00_scope.md section 4; 10_state.md sections 4, 6 and 9; 20_memory.md sections 1 and 6;
42_byte_decoders.md sections 2 and 4; 43_pulse_decoders.md sections 2 and 3; 70_reset_and_hazards.md section 1): the frame
buffer stays in bounds, channels are 0 or in `[1000, 2000]`, a lost link or a faulted PWM channel reads 0, `PPM_IDX` stays in
range, fields of other protocols stay at reset, and so does every field while `rst` is asserted. -/
def Obligations.StepsKeepTheInvariants : Prop :=
  ∀ s t : State, s.Inv → step s = .next t → t.Inv

/-- No transaction stops the block (60_exceptions.md section 1): from every state that meets the invariants, a run of any
length goes on. -/
def Obligations.NoTransactionStopsTheBlock : Prop :=
  ∀ (n : Nat) (s : State), s.Inv → SafeRun n s

/-- RXB completes in every state that meets the invariants, with exactly the response `(0, 0)` (42_byte_decoders.md
section 2). -/
def Obligations.RxbAlwaysCompletes : Prop :=
  ∀ (s : State) (b : Byte), s.Inv → s.port = .command →
    ∃ t, exec (.rxb b) s = .next t ∧ t.responses = s.responses ++ [⟨false, 0⟩]
end

