-- ==== Sys2Proof/Laws/Memory.lean ====
section
/-! SUPPORT. The frame buffer: a read after a write, and the canonical form every memory operation keeps. -/

namespace Sys2Proof.Machine

theorem Memory.byteAt_erase (m : Memory) (a x : Nat) :
    (Memory.erase m a).byteAt x = if x = a then 0 else m.byteAt x := by
  induction m with
  | nil => simp [Memory.erase, Memory.byteAt]
  | cons c rest ih =>
    obtain ⟨k, v⟩ := c
    by_cases hk : k = a
    · subst hk
      simp only [Memory.erase, if_true, ih, Memory.byteAt]
      by_cases hx : x = k
      · simp [hx]
      · simp [hx, Ne.symm hx]
    · simp only [Memory.erase, hk, if_false, Memory.byteAt, ih]
      by_cases hx : k = x
      · subst hx; simp [hk]
      · simp [hx]

theorem Memory.byteAt_insert_ne (m : Memory) (a x : Nat) (b : Byte) (h : x ≠ a) :
    (Memory.insert m a b).byteAt x = m.byteAt x := by
  induction m with
  | nil => simp [Memory.insert, Memory.byteAt, Ne.symm h]
  | cons c rest ih =>
    obtain ⟨k, v⟩ := c
    unfold Memory.insert
    split
    · simp [Memory.byteAt, Ne.symm h]
    · simp [Memory.byteAt, ih]

theorem Memory.byteAt_insert_self (m : Memory) (a : Nat) (b : Byte) :
    (Memory.insert (Memory.erase m a) a b).byteAt a = b := by
  induction m with
  | nil => simp [Memory.erase, Memory.insert, Memory.byteAt]
  | cons c rest ih =>
    obtain ⟨k, v⟩ := c
    by_cases hk : k = a
    · simpa [Memory.erase, hk] using ih
    · simp only [Memory.erase, hk, if_false, Memory.insert]
      split
      · simp [Memory.byteAt]
      · simp [Memory.byteAt, hk, ih]

/-- A read after a write: the byte written, and every other byte as before. -/
theorem Memory.byteAt_write (m : Memory) (a x : Nat) (b : Byte) :
    (m.write a b).byteAt x = if x = a then b else m.byteAt x := by
  unfold Memory.write
  by_cases hb : b = 0
  · simp [hb, Memory.byteAt_erase]
  · simp only [hb, if_false]
    by_cases hx : x = a
    · subst hx; simp [Memory.byteAt_insert_self]
    · simp [hx, Memory.byteAt_insert_ne _ _ _ _ hx, Memory.byteAt_erase]

@[simp] theorem Memory.byteAt_write_self (m : Memory) (a : Nat) (b : Byte) : (m.write a b).byteAt a = b := by
  simp [Memory.byteAt_write]

theorem Memory.byteAt_write_ne (m : Memory) {a x : Nat} (b : Byte) (h : x ≠ a) :
    (m.write a b).byteAt x = m.byteAt x := by
  simp [Memory.byteAt_write, h]

theorem Memory.wfAbove_mono {m : Memory} {lo lo' : Nat} (h : lo' ≤ lo) (hm : Memory.wfAbove lo m = true) :
    Memory.wfAbove lo' m = true := by
  cases m with
  | nil => rfl
  | cons c rest =>
    obtain ⟨k, v⟩ := c
    simp only [Memory.wfAbove, Bool.and_eq_true, decide_eq_true_eq] at hm ⊢
    exact ⟨⟨⟨h.trans hm.1.1.1, hm.1.1.2⟩, hm.1.2⟩, hm.2⟩

theorem Memory.wfAbove_erase {m : Memory} {lo : Nat} (a : Nat) (hm : Memory.wfAbove lo m = true) :
    Memory.wfAbove lo (Memory.erase m a) = true := by
  induction m generalizing lo with
  | nil => rfl
  | cons c rest ih =>
    obtain ⟨k, v⟩ := c
    simp only [Memory.wfAbove, Bool.and_eq_true, decide_eq_true_eq] at hm
    by_cases hk : k = a
    · simp only [Memory.erase, hk, if_true]
      exact Memory.wfAbove_mono (by omega) (ih hm.2)
    · simp only [Memory.erase, hk, if_false, Memory.wfAbove, Bool.and_eq_true, decide_eq_true_eq]
      exact ⟨hm.1, ih hm.2⟩

/-- No cell of the list has address `a` after erasing it, so an insertion keeps the addresses rising. -/
theorem Memory.wfAbove_insert_erase {m : Memory} {lo a : Nat} {b : Byte} (ha : lo ≤ a) (hf : a < bufBytes) (hb : b ≠ 0)
    (hm : Memory.wfAbove lo m = true) : Memory.wfAbove lo (Memory.insert (Memory.erase m a) a b) = true := by
  induction m generalizing lo with
  | nil => simpa [Memory.erase, Memory.insert, Memory.wfAbove, ha, hf] using hb
  | cons c rest ih =>
    obtain ⟨k, v⟩ := c
    have hm' := hm
    simp only [Memory.wfAbove, Bool.and_eq_true, decide_eq_true_eq] at hm
    by_cases hk : k = a
    · simp only [Memory.erase, hk, if_true]
      exact ih ha (Memory.wfAbove_mono (by omega) hm.2)
    · simp only [Memory.erase, hk, if_false, Memory.insert]
      split
      · next hlt =>
        simp only [Memory.wfAbove, Bool.and_eq_true, decide_eq_true_eq]
        exact ⟨⟨⟨ha, hf⟩, hb⟩, ⟨⟨⟨hlt, hm.1.1.2⟩, hm.1.2⟩, Memory.wfAbove_erase a hm.2⟩⟩
      · next hlt =>
        simp only [Memory.wfAbove, Bool.and_eq_true, decide_eq_true_eq]
        exact ⟨hm.1, ih (by omega) hm.2⟩

/-- Every write inside the buffer keeps the canonical form. -/
theorem Memory.wf_write {m : Memory} {a : Nat} (b : Byte) (ha : a < bufBytes) (hm : m.wf = true) : (m.write a b).wf = true := by
  unfold Memory.write
  by_cases hb : b = 0
  · simp only [hb, if_true]; exact Memory.wfAbove_erase a hm
  · simp only [hb, if_false]; exact Memory.wfAbove_insert_erase (Nat.zero_le a) ha hb hm

theorem Memory.wf_nil : Memory.wf [] = true := rfl

/-- The buffer after reset is in canonical form, under every configuration. -/
theorem Memory.wf_reset (cfg : Config) : (State.resetWith cfg).buf.wf = true := rfl

theorem Memory.slice_write_of_lt (m : Memory) (lo n a : Nat) (b : Byte) (h : lo + n ≤ a) :
    (m.write a b).slice lo n = m.slice lo n := by
  unfold Memory.slice
  refine List.map_congr_left fun k hk => Memory.byteAt_write_ne m b ?_
  have := List.mem_range.mp hk
  omega

end Sys2Proof.Machine
end

