-- ==== Sys2Proof/Laws/Ops.lean ====
section
/-! SUPPORT. One lemma per shared operation: what it answers, what it reads back, what a loop over channels keeps. -/

namespace Sys2Proof.Machine

/-! The per-channel arrays. -/

section
variable {α : Type} (v : Vector α chEntries) (d x : α) (i j : Nat)

theorem entry_setEntry : entry (setEntry v i x) d j = if i = j ∧ i < chEntries then x else entry v d j := by
  unfold entry setEntry
  rw [Vector.getElem?_setIfInBounds]
  split
  · next h =>
    subst h
    by_cases hi : i < chEntries
    · simp [hi]
    · simp [hi]
  · next h => simp [h]

theorem entry_setEntry_self (h : i < chEntries) : entry (setEntry v i x) d i = x := by simp [entry_setEntry, h]

theorem entry_setEntry_ne (h : i ≠ j) : entry (setEntry v i x) d j = entry v d j := by simp [entry_setEntry, h]

theorem entry_replicate (h : i < chEntries) : entry (Vector.replicate chEntries x) d i = x := by simp [entry, h]

theorem entry_replicate_default : entry (Vector.replicate chEntries d) d i = d := by
  unfold entry
  by_cases h : i < chEntries <;> simp [h]

theorem entry_of_ge (h : chEntries ≤ i) : entry v d i = d := by simp [entry, h]

theorem entry_ofFn (f : Fin chEntries → α) (h : i < chEntries) : entry (Vector.ofFn f) d i = f ⟨i, h⟩ := by simp [entry, h]

variable {v} {d} in
/-- Two arrays that read alike are equal. -/
theorem vector_ext_entry {w : Vector α chEntries} (h : ∀ i, i < chEntries → entry v d i = entry w d i) : v = w := by
  ext i hi
  simpa [entry, hi] using h i hi
end

/-! The ports. -/

section
variable {s t : State} {o : Host.Outcome State Fault Refusal}

theorem onCommandPort_command (h : s.port = .command) : onCommandPort s o = o := by simp [onCommandPort, h]

theorem onCommandPort_edge (h : s.port = .edge) : onCommandPort s o = .next s := by simp [onCommandPort, h]

theorem onEdgePort_edge (h : s.port = .edge) : onEdgePort s o = o := by simp [onEdgePort, h]

theorem onEdgePort_command (h : s.port = .command) : onEdgePort s o = .next s.refuseWord := by simp [onEdgePort, h]

/-- A transaction of the command port has its effect there, and nothing on the edge port. -/
theorem onCommandPort_cases (h : onCommandPort s o = .next t) : s.port = .command ∧ o = .next t ∨ s.port = .edge ∧ t = s := by
  cases hp : s.port with
  | command => exact .inl ⟨rfl, by simpa [onCommandPort, hp] using h⟩
  | edge => exact .inr ⟨rfl, by simpa [onCommandPort, hp, eq_comm] using h⟩

/-- A transaction of the edge port has its effect there, and is refused on the command port. -/
theorem onEdgePort_cases (h : onEdgePort s o = .next t) :
    s.port = .edge ∧ o = .next t ∨ s.port = .command ∧ t = s.refuseWord := by
  cases hp : s.port with
  | edge => exact .inl ⟨rfl, by simpa [onEdgePort, hp] using h⟩
  | command => exact .inr ⟨rfl, by simpa [onEdgePort, hp, eq_comm] using h⟩
end

/-! Loops over channels. -/

/-- What every pass of the loop keeps, the loop keeps. -/
theorem forChannels_keeps {P : State → Prop} {body : Nat → State → State} (n : Nat) {s : State} (h0 : P s)
    (hb : ∀ k s, k < n → P s → P (body k s)) : P (forChannels n body s) := by
  induction n with
  | zero => exact h0
  | succ n ih =>
    exact hb n _ (Nat.lt_succ_self n) (ih fun k s hk hP => hb k s (Nat.lt_succ_of_lt hk) hP)

/-- What the loop has established after pass `k`, for every `k`. -/
theorem forChannels_induction {P : Nat → State → Prop} {body : Nat → State → State} (n : Nat) {s : State} (h0 : P 0 s)
    (hb : ∀ k s, k < n → P k s → P (k + 1) (body k s)) : P n (forChannels n body s) := by
  induction n with
  | zero => exact h0
  | succ n ih =>
    exact hb n _ (Nat.lt_succ_self n) (ih fun k s hk hP => hb k s (Nat.lt_succ_of_lt hk) hP)

/-! Time and legality. -/

theorem expired_iff (now t0 : Word) (timeout : Nat) : expired now t0 timeout = true ↔ timeout < elapsed now t0 := by
  simp [expired]

theorem calibLegal_iff (k : Calib) : calibLegal k = true ↔ k.min < k.max ∧ k.max + k.th ≤ 65535 := by
  simp [calibLegal]

/-- A legal configuration is one that meets every constraint of 00_scope.md rule R8 and has the values rule R7 fixes. -/
theorem configLegal_iff (c : Config) : configLegal c = true ↔
    1 ≤ c.nPpm ∧ c.nPpm ≤ 16 ∧ 1 ≤ c.nPwm ∧ c.nPwm ≤ 16 ∧
    calibLegal c.calCrsf = true ∧ calibLegal c.calSbus = true ∧ calibLegal c.calIbus = true ∧
    calibLegal c.calPpm = true ∧ calibLegal c.calPwm = true ∧
    c.ftCrsf < 2 ^ 31 ∧ c.ftSbus < 2 ^ 31 ∧ c.ftIbus < 2 ^ 31 ∧
    c.ltCrsf < 2 ^ 31 ∧ c.ltSbus < 2 ^ 31 ∧ c.ltIbus < 2 ^ 31 ∧ c.ltPpm < 2 ^ 31 ∧ c.ltPwm < 2 ^ 31 ∧
    1 ≤ c.ppmSyncUs ∧ c.ppmSyncUs ≤ 65535 ∧ c.fixed = {} := by
  simp [configLegal, configChecks]

/-- Under a legal configuration every parameter rule R7 fixes has its value. -/
theorem fixed_of_configLegal {c : Config} (h : configLegal c = true) : c.fixed = {} := by
  have := (configLegal_iff c).mp h
  tauto

theorem calibLegal_of_configLegal {c : Config} (h : configLegal c = true) (p : Proto) : calibLegal (calib c p) = true := by
  have := (configLegal_iff c).mp h
  cases p <;> simp only [calib] <;> tauto

/-! The step. -/

theorem unlessReset_asserted {s : State} (h : s.rst = true) (rest : List Arrival) (o : Host.Outcome State Fault Refusal) :
    s.unlessReset rest o = .next (s.skipTransfer rest) := by simp [State.unlessReset, h]

theorem unlessReset_released {s : State} (h : s.rst = false) (rest : List Arrival) (o : Host.Outcome State Fault Refusal) :
    s.unlessReset rest o = o := by simp [State.unlessReset, h]

/-- A transfer is skipped while `rst` is asserted, and has its effect otherwise. -/
theorem unlessReset_cases {s t : State} {rest : List Arrival} {o : Host.Outcome State Fault Refusal}
    (h : s.unlessReset rest o = .next t) : s.rst = true ∧ t = s.skipTransfer rest ∨ s.rst = false ∧ o = .next t := by
  cases hr : s.rst with
  | true => exact .inl ⟨rfl, by simpa [unlessReset_asserted hr, eq_comm] using h⟩
  | false => exact .inr ⟨rfl, by simpa [unlessReset_released hr] using h⟩

/-- Everything a step can do: hold, assert or release `rst`, skip a transfer offered while `rst` is asserted, or run the
decoded word of the oldest transfer. -/
theorem step_cases {s t : State} (h : step s = .next t) :
    configLegal s.cfg = true ∧
    (s.arrivals = [] ∧ t = s ∨
      (∃ p rest, s.arrivals = .assertRst p :: rest ∧ t = s.sampleReset rest) ∨
      (∃ rest, s.arrivals = .releaseRst :: rest ∧ t = s.releaseReset rest) ∨
      (∃ a rest, s.arrivals = a :: rest ∧ s.rst = true ∧ t = s.skipTransfer rest) ∨
      (∃ c rest, s.arrivals = .command c :: rest ∧ s.rst = false ∧
        exec (decode c.word) (s.sampleCommand c rest) = .next t) ∨
      (∃ e rest, s.arrivals = .edge e :: rest ∧ s.rst = false ∧ exec (decode e.word) (s.sampleEdge e rest) = .next t) ∨
      ∃ e c rest, s.arrivals = .both e c :: rest ∧ s.rst = false ∧
        exec (decode e.word) (s.sampleEdge e (.command c :: rest)) = .next t) := by
  unfold step at h
  split at h
  · next hl =>
    refine ⟨hl, ?_⟩
    cases ha : s.arrivals with
    | nil => rw [ha] at h; exact .inl ⟨rfl, by simpa [eq_comm] using h⟩
    | cons a rest =>
      rw [ha] at h
      cases a with
      | assertRst p => exact .inr (.inl ⟨p, rest, rfl, by simpa [eq_comm] using h⟩)
      | releaseRst => exact .inr (.inr (.inl ⟨rest, rfl, by simpa [eq_comm] using h⟩))
      | command c =>
        rcases unlessReset_cases h with ⟨hr, ht⟩ | ⟨hr, ht⟩
        · exact .inr (.inr (.inr (.inl ⟨_, rest, rfl, hr, ht⟩)))
        · exact .inr (.inr (.inr (.inr (.inl ⟨c, rest, rfl, hr, ht⟩))))
      | edge e =>
        rcases unlessReset_cases h with ⟨hr, ht⟩ | ⟨hr, ht⟩
        · exact .inr (.inr (.inr (.inl ⟨_, rest, rfl, hr, ht⟩)))
        · exact .inr (.inr (.inr (.inr (.inr (.inl ⟨e, rest, rfl, hr, ht⟩)))))
      | both e c =>
        rcases unlessReset_cases h with ⟨hr, ht⟩ | ⟨hr, ht⟩
        · exact .inr (.inr (.inr (.inl ⟨_, rest, rfl, hr, ht⟩)))
        · exact .inr (.inr (.inr (.inr (.inr (.inr ⟨e, c, rest, rfl, hr, ht⟩)))))
  · exact absurd h (by simp)

end Sys2Proof.Machine
end

