-- ==== Sys2Proof/Laws/State.lean ====
section
/-! SUPPORT. What each named update does to each field of the state, one lemma a field, so that no proof unfolds a record
update. -/

namespace Sys2Proof.Machine

/-! `State.respond` -/

section
variable (s : State) (err : Bool) (data : Half)
@[simp] theorem State.respond_cfg : (s.respond err data).cfg = s.cfg := rfl
@[simp] theorem State.respond_arrivals : (s.respond err data).arrivals = s.arrivals := rfl
@[simp] theorem State.respond_proto : (s.respond err data).proto = s.proto := rfl
@[simp] theorem State.respond_fsm : (s.respond err data).fsm = s.fsm := rfl
@[simp] theorem State.respond_buf : (s.respond err data).buf = s.buf := rfl
@[simp] theorem State.respond_idx : (s.respond err data).idx = s.idx := rfl
@[simp] theorem State.respond_flen : (s.respond err data).flen = s.flen := rfl
@[simp] theorem State.respond_ch : (s.respond err data).ch = s.ch := rfl
@[simp] theorem State.respond_tFrame : (s.respond err data).tFrame = s.tFrame := rfl
@[simp] theorem State.respond_tValid : (s.respond err data).tValid = s.tValid := rfl
@[simp] theorem State.respond_inputLost : (s.respond err data).inputLost = s.inputLost := rfl
@[simp] theorem State.respond_lastStatus : (s.respond err data).lastStatus = s.lastStatus := rfl
@[simp] theorem State.respond_accXor : (s.respond err data).accXor = s.accXor := rfl
@[simp] theorem State.respond_accSub : (s.respond err data).accSub = s.accSub := rfl
@[simp] theorem State.respond_accCrc : (s.respond err data).accCrc = s.accCrc := rfl
@[simp] theorem State.respond_riseTs : (s.respond err data).riseTs = s.riseTs := rfl
@[simp] theorem State.respond_riseValid : (s.respond err data).riseValid = s.riseValid := rfl
@[simp] theorem State.respond_slot : (s.respond err data).slot = s.slot := rfl
@[simp] theorem State.respond_tPulse : (s.respond err data).tPulse = s.tPulse := rfl
@[simp] theorem State.respond_chFault : (s.respond err data).chFault = s.chFault := rfl
@[simp] theorem State.respond_ppmPrev : (s.respond err data).ppmPrev = s.ppmPrev := rfl
@[simp] theorem State.respond_ppmHavePrev : (s.respond err data).ppmHavePrev = s.ppmHavePrev := rfl
@[simp] theorem State.respond_ppmIdx : (s.respond err data).ppmIdx = s.ppmIdx := rfl
@[simp] theorem State.respond_ppmSynced : (s.respond err data).ppmSynced = s.ppmSynced := rfl
@[simp] theorem State.respond_ppmFrame : (s.respond err data).ppmFrame = s.ppmFrame := rfl
@[simp] theorem State.respond_port : (s.respond err data).port = s.port := rfl
@[simp] theorem State.respond_nowMs : (s.respond err data).nowMs = s.nowMs := rfl
@[simp] theorem State.respond_edgeTsUs : (s.respond err data).edgeTsUs = s.edgeTsUs := rfl
@[simp] theorem State.respond_rst : (s.respond err data).rst = s.rst := rfl
@[simp] theorem State.respond_responses : (s.respond err data).responses = s.responses ++ [⟨err, data⟩] := rfl
end

/-! `State.refuseWord` -/

section
variable (s : State)
@[simp] theorem State.refuseWord_cfg : (s.refuseWord).cfg = s.cfg := rfl
@[simp] theorem State.refuseWord_arrivals : (s.refuseWord).arrivals = s.arrivals := rfl
@[simp] theorem State.refuseWord_proto : (s.refuseWord).proto = s.proto := rfl
@[simp] theorem State.refuseWord_fsm : (s.refuseWord).fsm = s.fsm := rfl
@[simp] theorem State.refuseWord_buf : (s.refuseWord).buf = s.buf := rfl
@[simp] theorem State.refuseWord_idx : (s.refuseWord).idx = s.idx := rfl
@[simp] theorem State.refuseWord_flen : (s.refuseWord).flen = s.flen := rfl
@[simp] theorem State.refuseWord_ch : (s.refuseWord).ch = s.ch := rfl
@[simp] theorem State.refuseWord_tFrame : (s.refuseWord).tFrame = s.tFrame := rfl
@[simp] theorem State.refuseWord_tValid : (s.refuseWord).tValid = s.tValid := rfl
@[simp] theorem State.refuseWord_inputLost : (s.refuseWord).inputLost = s.inputLost := rfl
@[simp] theorem State.refuseWord_lastStatus : (s.refuseWord).lastStatus = s.lastStatus := rfl
@[simp] theorem State.refuseWord_accXor : (s.refuseWord).accXor = s.accXor := rfl
@[simp] theorem State.refuseWord_accSub : (s.refuseWord).accSub = s.accSub := rfl
@[simp] theorem State.refuseWord_accCrc : (s.refuseWord).accCrc = s.accCrc := rfl
@[simp] theorem State.refuseWord_riseTs : (s.refuseWord).riseTs = s.riseTs := rfl
@[simp] theorem State.refuseWord_riseValid : (s.refuseWord).riseValid = s.riseValid := rfl
@[simp] theorem State.refuseWord_slot : (s.refuseWord).slot = s.slot := rfl
@[simp] theorem State.refuseWord_tPulse : (s.refuseWord).tPulse = s.tPulse := rfl
@[simp] theorem State.refuseWord_chFault : (s.refuseWord).chFault = s.chFault := rfl
@[simp] theorem State.refuseWord_ppmPrev : (s.refuseWord).ppmPrev = s.ppmPrev := rfl
@[simp] theorem State.refuseWord_ppmHavePrev : (s.refuseWord).ppmHavePrev = s.ppmHavePrev := rfl
@[simp] theorem State.refuseWord_ppmIdx : (s.refuseWord).ppmIdx = s.ppmIdx := rfl
@[simp] theorem State.refuseWord_ppmSynced : (s.refuseWord).ppmSynced = s.ppmSynced := rfl
@[simp] theorem State.refuseWord_ppmFrame : (s.refuseWord).ppmFrame = s.ppmFrame := rfl
@[simp] theorem State.refuseWord_port : (s.refuseWord).port = s.port := rfl
@[simp] theorem State.refuseWord_nowMs : (s.refuseWord).nowMs = s.nowMs := rfl
@[simp] theorem State.refuseWord_edgeTsUs : (s.refuseWord).edgeTsUs = s.edgeTsUs := rfl
@[simp] theorem State.refuseWord_rst : (s.refuseWord).rst = s.rst := rfl
@[simp] theorem State.refuseWord_responses : (s.refuseWord).responses = s.responses ++ [⟨true, 0⟩] := rfl
end

/-! `State.resetDecoder` -/

section
variable (s : State)
@[simp] theorem State.resetDecoder_cfg : (s.resetDecoder).cfg = s.cfg := rfl
@[simp] theorem State.resetDecoder_arrivals : (s.resetDecoder).arrivals = s.arrivals := rfl
@[simp] theorem State.resetDecoder_proto : (s.resetDecoder).proto = s.proto := rfl
@[simp] theorem State.resetDecoder_fsm : (s.resetDecoder).fsm = .idle := rfl
@[simp] theorem State.resetDecoder_buf : (s.resetDecoder).buf = [] := rfl
@[simp] theorem State.resetDecoder_idx : (s.resetDecoder).idx = 0 := rfl
@[simp] theorem State.resetDecoder_flen : (s.resetDecoder).flen = 0 := rfl
@[simp] theorem State.resetDecoder_ch : (s.resetDecoder).ch = Vector.replicate chEntries 0 := rfl
@[simp] theorem State.resetDecoder_tFrame : (s.resetDecoder).tFrame = 0 := rfl
@[simp] theorem State.resetDecoder_tValid : (s.resetDecoder).tValid = 0 := rfl
@[simp] theorem State.resetDecoder_inputLost : (s.resetDecoder).inputLost = true := rfl
@[simp] theorem State.resetDecoder_lastStatus : (s.resetDecoder).lastStatus = .none := rfl
@[simp] theorem State.resetDecoder_accXor : (s.resetDecoder).accXor = s.accXor := rfl
@[simp] theorem State.resetDecoder_accSub : (s.resetDecoder).accSub = s.accSub := rfl
@[simp] theorem State.resetDecoder_accCrc : (s.resetDecoder).accCrc = s.accCrc := rfl
@[simp] theorem State.resetDecoder_riseTs : (s.resetDecoder).riseTs = Vector.replicate chEntries 0 := rfl
@[simp] theorem State.resetDecoder_riseValid : (s.resetDecoder).riseValid = Vector.replicate chEntries false := rfl
@[simp] theorem State.resetDecoder_slot : (s.resetDecoder).slot = Vector.replicate chEntries 0 := rfl
@[simp] theorem State.resetDecoder_tPulse : (s.resetDecoder).tPulse = Vector.replicate chEntries 0 := rfl
@[simp] theorem State.resetDecoder_chFault : (s.resetDecoder).chFault = Vector.replicate chEntries true := rfl
@[simp] theorem State.resetDecoder_ppmPrev : (s.resetDecoder).ppmPrev = 0 := rfl
@[simp] theorem State.resetDecoder_ppmHavePrev : (s.resetDecoder).ppmHavePrev = false := rfl
@[simp] theorem State.resetDecoder_ppmIdx : (s.resetDecoder).ppmIdx = 0 := rfl
@[simp] theorem State.resetDecoder_ppmSynced : (s.resetDecoder).ppmSynced = false := rfl
@[simp] theorem State.resetDecoder_ppmFrame : (s.resetDecoder).ppmFrame = false := rfl
@[simp] theorem State.resetDecoder_port : (s.resetDecoder).port = s.port := rfl
@[simp] theorem State.resetDecoder_nowMs : (s.resetDecoder).nowMs = s.nowMs := rfl
@[simp] theorem State.resetDecoder_edgeTsUs : (s.resetDecoder).edgeTsUs = s.edgeTsUs := rfl
@[simp] theorem State.resetDecoder_rst : (s.resetDecoder).rst = s.rst := rfl
@[simp] theorem State.resetDecoder_responses : (s.resetDecoder).responses = s.responses := rfl
end

/-! `State.assertReset` -/

section
variable (s : State)
@[simp] theorem State.assertReset_cfg : (s.assertReset).cfg = s.cfg := rfl
@[simp] theorem State.assertReset_arrivals : (s.assertReset).arrivals = s.arrivals := rfl
@[simp] theorem State.assertReset_proto : (s.assertReset).proto = s.cfg.resetProto := rfl
@[simp] theorem State.assertReset_fsm : (s.assertReset).fsm = .idle := rfl
@[simp] theorem State.assertReset_buf : (s.assertReset).buf = [] := rfl
@[simp] theorem State.assertReset_idx : (s.assertReset).idx = 0 := rfl
@[simp] theorem State.assertReset_flen : (s.assertReset).flen = 0 := rfl
@[simp] theorem State.assertReset_ch : (s.assertReset).ch = Vector.replicate chEntries 0 := rfl
@[simp] theorem State.assertReset_tFrame : (s.assertReset).tFrame = 0 := rfl
@[simp] theorem State.assertReset_tValid : (s.assertReset).tValid = 0 := rfl
@[simp] theorem State.assertReset_inputLost : (s.assertReset).inputLost = true := rfl
@[simp] theorem State.assertReset_lastStatus : (s.assertReset).lastStatus = .none := rfl
@[simp] theorem State.assertReset_accXor : (s.assertReset).accXor = 0x00 := rfl
@[simp] theorem State.assertReset_accSub : (s.assertReset).accSub = 0xFFFF := rfl
@[simp] theorem State.assertReset_accCrc : (s.assertReset).accCrc = 0x00 := rfl
@[simp] theorem State.assertReset_riseTs : (s.assertReset).riseTs = Vector.replicate chEntries 0 := rfl
@[simp] theorem State.assertReset_riseValid : (s.assertReset).riseValid = Vector.replicate chEntries false := rfl
@[simp] theorem State.assertReset_slot : (s.assertReset).slot = Vector.replicate chEntries 0 := rfl
@[simp] theorem State.assertReset_tPulse : (s.assertReset).tPulse = Vector.replicate chEntries 0 := rfl
@[simp] theorem State.assertReset_chFault : (s.assertReset).chFault = Vector.replicate chEntries true := rfl
@[simp] theorem State.assertReset_ppmPrev : (s.assertReset).ppmPrev = 0 := rfl
@[simp] theorem State.assertReset_ppmHavePrev : (s.assertReset).ppmHavePrev = false := rfl
@[simp] theorem State.assertReset_ppmIdx : (s.assertReset).ppmIdx = 0 := rfl
@[simp] theorem State.assertReset_ppmSynced : (s.assertReset).ppmSynced = false := rfl
@[simp] theorem State.assertReset_ppmFrame : (s.assertReset).ppmFrame = false := rfl
@[simp] theorem State.assertReset_port : (s.assertReset).port = s.port := rfl
@[simp] theorem State.assertReset_nowMs : (s.assertReset).nowMs = s.nowMs := rfl
@[simp] theorem State.assertReset_edgeTsUs : (s.assertReset).edgeTsUs = s.edgeTsUs := rfl
@[simp] theorem State.assertReset_rst : (s.assertReset).rst = s.rst := rfl
@[simp] theorem State.assertReset_responses : (s.assertReset).responses = s.responses := rfl
end

/-! `State.toIdle` -/

section
variable (s : State)
@[simp] theorem State.toIdle_cfg : (s.toIdle).cfg = s.cfg := rfl
@[simp] theorem State.toIdle_arrivals : (s.toIdle).arrivals = s.arrivals := rfl
@[simp] theorem State.toIdle_proto : (s.toIdle).proto = s.proto := rfl
@[simp] theorem State.toIdle_fsm : (s.toIdle).fsm = .idle := rfl
@[simp] theorem State.toIdle_buf : (s.toIdle).buf = s.buf := rfl
@[simp] theorem State.toIdle_idx : (s.toIdle).idx = 0 := rfl
@[simp] theorem State.toIdle_flen : (s.toIdle).flen = s.flen := rfl
@[simp] theorem State.toIdle_ch : (s.toIdle).ch = s.ch := rfl
@[simp] theorem State.toIdle_tFrame : (s.toIdle).tFrame = s.tFrame := rfl
@[simp] theorem State.toIdle_tValid : (s.toIdle).tValid = s.tValid := rfl
@[simp] theorem State.toIdle_inputLost : (s.toIdle).inputLost = s.inputLost := rfl
@[simp] theorem State.toIdle_lastStatus : (s.toIdle).lastStatus = s.lastStatus := rfl
@[simp] theorem State.toIdle_accXor : (s.toIdle).accXor = s.accXor := rfl
@[simp] theorem State.toIdle_accSub : (s.toIdle).accSub = s.accSub := rfl
@[simp] theorem State.toIdle_accCrc : (s.toIdle).accCrc = s.accCrc := rfl
@[simp] theorem State.toIdle_riseTs : (s.toIdle).riseTs = s.riseTs := rfl
@[simp] theorem State.toIdle_riseValid : (s.toIdle).riseValid = s.riseValid := rfl
@[simp] theorem State.toIdle_slot : (s.toIdle).slot = s.slot := rfl
@[simp] theorem State.toIdle_tPulse : (s.toIdle).tPulse = s.tPulse := rfl
@[simp] theorem State.toIdle_chFault : (s.toIdle).chFault = s.chFault := rfl
@[simp] theorem State.toIdle_ppmPrev : (s.toIdle).ppmPrev = s.ppmPrev := rfl
@[simp] theorem State.toIdle_ppmHavePrev : (s.toIdle).ppmHavePrev = s.ppmHavePrev := rfl
@[simp] theorem State.toIdle_ppmIdx : (s.toIdle).ppmIdx = s.ppmIdx := rfl
@[simp] theorem State.toIdle_ppmSynced : (s.toIdle).ppmSynced = s.ppmSynced := rfl
@[simp] theorem State.toIdle_ppmFrame : (s.toIdle).ppmFrame = s.ppmFrame := rfl
@[simp] theorem State.toIdle_port : (s.toIdle).port = s.port := rfl
@[simp] theorem State.toIdle_nowMs : (s.toIdle).nowMs = s.nowMs := rfl
@[simp] theorem State.toIdle_edgeTsUs : (s.toIdle).edgeTsUs = s.edgeTsUs := rfl
@[simp] theorem State.toIdle_rst : (s.toIdle).rst = s.rst := rfl
@[simp] theorem State.toIdle_responses : (s.toIdle).responses = s.responses := rfl
end

/-! `State.withStatus` -/

section
variable (s : State) (c : Status)
@[simp] theorem State.withStatus_cfg : (s.withStatus c).cfg = s.cfg := rfl
@[simp] theorem State.withStatus_arrivals : (s.withStatus c).arrivals = s.arrivals := rfl
@[simp] theorem State.withStatus_proto : (s.withStatus c).proto = s.proto := rfl
@[simp] theorem State.withStatus_fsm : (s.withStatus c).fsm = s.fsm := rfl
@[simp] theorem State.withStatus_buf : (s.withStatus c).buf = s.buf := rfl
@[simp] theorem State.withStatus_idx : (s.withStatus c).idx = s.idx := rfl
@[simp] theorem State.withStatus_flen : (s.withStatus c).flen = s.flen := rfl
@[simp] theorem State.withStatus_ch : (s.withStatus c).ch = s.ch := rfl
@[simp] theorem State.withStatus_tFrame : (s.withStatus c).tFrame = s.tFrame := rfl
@[simp] theorem State.withStatus_tValid : (s.withStatus c).tValid = s.tValid := rfl
@[simp] theorem State.withStatus_inputLost : (s.withStatus c).inputLost = s.inputLost := rfl
@[simp] theorem State.withStatus_lastStatus : (s.withStatus c).lastStatus = c := rfl
@[simp] theorem State.withStatus_accXor : (s.withStatus c).accXor = s.accXor := rfl
@[simp] theorem State.withStatus_accSub : (s.withStatus c).accSub = s.accSub := rfl
@[simp] theorem State.withStatus_accCrc : (s.withStatus c).accCrc = s.accCrc := rfl
@[simp] theorem State.withStatus_riseTs : (s.withStatus c).riseTs = s.riseTs := rfl
@[simp] theorem State.withStatus_riseValid : (s.withStatus c).riseValid = s.riseValid := rfl
@[simp] theorem State.withStatus_slot : (s.withStatus c).slot = s.slot := rfl
@[simp] theorem State.withStatus_tPulse : (s.withStatus c).tPulse = s.tPulse := rfl
@[simp] theorem State.withStatus_chFault : (s.withStatus c).chFault = s.chFault := rfl
@[simp] theorem State.withStatus_ppmPrev : (s.withStatus c).ppmPrev = s.ppmPrev := rfl
@[simp] theorem State.withStatus_ppmHavePrev : (s.withStatus c).ppmHavePrev = s.ppmHavePrev := rfl
@[simp] theorem State.withStatus_ppmIdx : (s.withStatus c).ppmIdx = s.ppmIdx := rfl
@[simp] theorem State.withStatus_ppmSynced : (s.withStatus c).ppmSynced = s.ppmSynced := rfl
@[simp] theorem State.withStatus_ppmFrame : (s.withStatus c).ppmFrame = s.ppmFrame := rfl
@[simp] theorem State.withStatus_port : (s.withStatus c).port = s.port := rfl
@[simp] theorem State.withStatus_nowMs : (s.withStatus c).nowMs = s.nowMs := rfl
@[simp] theorem State.withStatus_edgeTsUs : (s.withStatus c).edgeTsUs = s.edgeTsUs := rfl
@[simp] theorem State.withStatus_rst : (s.withStatus c).rst = s.rst := rfl
@[simp] theorem State.withStatus_responses : (s.withStatus c).responses = s.responses := rfl
end

/-! `State.loseLink` -/

section
variable (s : State)
@[simp] theorem State.loseLink_cfg : (s.loseLink).cfg = s.cfg := rfl
@[simp] theorem State.loseLink_arrivals : (s.loseLink).arrivals = s.arrivals := rfl
@[simp] theorem State.loseLink_proto : (s.loseLink).proto = s.proto := rfl
@[simp] theorem State.loseLink_fsm : (s.loseLink).fsm = s.fsm := rfl
@[simp] theorem State.loseLink_buf : (s.loseLink).buf = s.buf := rfl
@[simp] theorem State.loseLink_idx : (s.loseLink).idx = s.idx := rfl
@[simp] theorem State.loseLink_flen : (s.loseLink).flen = s.flen := rfl
@[simp] theorem State.loseLink_ch : (s.loseLink).ch = Vector.replicate chEntries 0 := rfl
@[simp] theorem State.loseLink_tFrame : (s.loseLink).tFrame = s.tFrame := rfl
@[simp] theorem State.loseLink_tValid : (s.loseLink).tValid = s.tValid := rfl
@[simp] theorem State.loseLink_inputLost : (s.loseLink).inputLost = true := rfl
@[simp] theorem State.loseLink_lastStatus : (s.loseLink).lastStatus = s.lastStatus := rfl
@[simp] theorem State.loseLink_accXor : (s.loseLink).accXor = s.accXor := rfl
@[simp] theorem State.loseLink_accSub : (s.loseLink).accSub = s.accSub := rfl
@[simp] theorem State.loseLink_accCrc : (s.loseLink).accCrc = s.accCrc := rfl
@[simp] theorem State.loseLink_riseTs : (s.loseLink).riseTs = s.riseTs := rfl
@[simp] theorem State.loseLink_riseValid : (s.loseLink).riseValid = s.riseValid := rfl
@[simp] theorem State.loseLink_slot : (s.loseLink).slot = s.slot := rfl
@[simp] theorem State.loseLink_tPulse : (s.loseLink).tPulse = s.tPulse := rfl
@[simp] theorem State.loseLink_chFault : (s.loseLink).chFault = s.chFault := rfl
@[simp] theorem State.loseLink_ppmPrev : (s.loseLink).ppmPrev = s.ppmPrev := rfl
@[simp] theorem State.loseLink_ppmHavePrev : (s.loseLink).ppmHavePrev = s.ppmHavePrev := rfl
@[simp] theorem State.loseLink_ppmIdx : (s.loseLink).ppmIdx = s.ppmIdx := rfl
@[simp] theorem State.loseLink_ppmSynced : (s.loseLink).ppmSynced = s.ppmSynced := rfl
@[simp] theorem State.loseLink_ppmFrame : (s.loseLink).ppmFrame = s.ppmFrame := rfl
@[simp] theorem State.loseLink_port : (s.loseLink).port = s.port := rfl
@[simp] theorem State.loseLink_nowMs : (s.loseLink).nowMs = s.nowMs := rfl
@[simp] theorem State.loseLink_edgeTsUs : (s.loseLink).edgeTsUs = s.edgeTsUs := rfl
@[simp] theorem State.loseLink_rst : (s.loseLink).rst = s.rst := rfl
@[simp] theorem State.loseLink_responses : (s.loseLink).responses = s.responses := rfl
end

/-! `State.accept` -/

section
variable (s : State) (v : Vector Half chEntries) (now : Word)
@[simp] theorem State.accept_cfg : (s.accept v now).cfg = s.cfg := rfl
@[simp] theorem State.accept_arrivals : (s.accept v now).arrivals = s.arrivals := rfl
@[simp] theorem State.accept_proto : (s.accept v now).proto = s.proto := rfl
@[simp] theorem State.accept_fsm : (s.accept v now).fsm = s.fsm := rfl
@[simp] theorem State.accept_buf : (s.accept v now).buf = s.buf := rfl
@[simp] theorem State.accept_idx : (s.accept v now).idx = s.idx := rfl
@[simp] theorem State.accept_flen : (s.accept v now).flen = s.flen := rfl
@[simp] theorem State.accept_ch : (s.accept v now).ch = v := rfl
@[simp] theorem State.accept_tFrame : (s.accept v now).tFrame = s.tFrame := rfl
@[simp] theorem State.accept_tValid : (s.accept v now).tValid = now := rfl
@[simp] theorem State.accept_inputLost : (s.accept v now).inputLost = false := rfl
@[simp] theorem State.accept_lastStatus : (s.accept v now).lastStatus = .okCh := rfl
@[simp] theorem State.accept_accXor : (s.accept v now).accXor = s.accXor := rfl
@[simp] theorem State.accept_accSub : (s.accept v now).accSub = s.accSub := rfl
@[simp] theorem State.accept_accCrc : (s.accept v now).accCrc = s.accCrc := rfl
@[simp] theorem State.accept_riseTs : (s.accept v now).riseTs = s.riseTs := rfl
@[simp] theorem State.accept_riseValid : (s.accept v now).riseValid = s.riseValid := rfl
@[simp] theorem State.accept_slot : (s.accept v now).slot = s.slot := rfl
@[simp] theorem State.accept_tPulse : (s.accept v now).tPulse = s.tPulse := rfl
@[simp] theorem State.accept_chFault : (s.accept v now).chFault = s.chFault := rfl
@[simp] theorem State.accept_ppmPrev : (s.accept v now).ppmPrev = s.ppmPrev := rfl
@[simp] theorem State.accept_ppmHavePrev : (s.accept v now).ppmHavePrev = s.ppmHavePrev := rfl
@[simp] theorem State.accept_ppmIdx : (s.accept v now).ppmIdx = s.ppmIdx := rfl
@[simp] theorem State.accept_ppmSynced : (s.accept v now).ppmSynced = s.ppmSynced := rfl
@[simp] theorem State.accept_ppmFrame : (s.accept v now).ppmFrame = s.ppmFrame := rfl
@[simp] theorem State.accept_port : (s.accept v now).port = s.port := rfl
@[simp] theorem State.accept_nowMs : (s.accept v now).nowMs = s.nowMs := rfl
@[simp] theorem State.accept_edgeTsUs : (s.accept v now).edgeTsUs = s.edgeTsUs := rfl
@[simp] theorem State.accept_rst : (s.accept v now).rst = s.rst := rfl
@[simp] theorem State.accept_responses : (s.accept v now).responses = s.responses := rfl
end

/-! `State.startFrame` -/

section
variable (s : State) (b : Byte) (now : Word)
@[simp] theorem State.startFrame_cfg : (s.startFrame b now).cfg = s.cfg := rfl
@[simp] theorem State.startFrame_arrivals : (s.startFrame b now).arrivals = s.arrivals := rfl
@[simp] theorem State.startFrame_proto : (s.startFrame b now).proto = s.proto := rfl
@[simp] theorem State.startFrame_fsm : (s.startFrame b now).fsm = s.fsm := rfl
@[simp] theorem State.startFrame_buf : (s.startFrame b now).buf = s.buf.write 0 b := rfl
@[simp] theorem State.startFrame_idx : (s.startFrame b now).idx = 1 := rfl
@[simp] theorem State.startFrame_flen : (s.startFrame b now).flen = s.flen := rfl
@[simp] theorem State.startFrame_ch : (s.startFrame b now).ch = s.ch := rfl
@[simp] theorem State.startFrame_tFrame : (s.startFrame b now).tFrame = now := rfl
@[simp] theorem State.startFrame_tValid : (s.startFrame b now).tValid = s.tValid := rfl
@[simp] theorem State.startFrame_inputLost : (s.startFrame b now).inputLost = s.inputLost := rfl
@[simp] theorem State.startFrame_lastStatus : (s.startFrame b now).lastStatus = s.lastStatus := rfl
@[simp] theorem State.startFrame_accXor : (s.startFrame b now).accXor = s.accXor := rfl
@[simp] theorem State.startFrame_accSub : (s.startFrame b now).accSub = s.accSub := rfl
@[simp] theorem State.startFrame_accCrc : (s.startFrame b now).accCrc = s.accCrc := rfl
@[simp] theorem State.startFrame_riseTs : (s.startFrame b now).riseTs = s.riseTs := rfl
@[simp] theorem State.startFrame_riseValid : (s.startFrame b now).riseValid = s.riseValid := rfl
@[simp] theorem State.startFrame_slot : (s.startFrame b now).slot = s.slot := rfl
@[simp] theorem State.startFrame_tPulse : (s.startFrame b now).tPulse = s.tPulse := rfl
@[simp] theorem State.startFrame_chFault : (s.startFrame b now).chFault = s.chFault := rfl
@[simp] theorem State.startFrame_ppmPrev : (s.startFrame b now).ppmPrev = s.ppmPrev := rfl
@[simp] theorem State.startFrame_ppmHavePrev : (s.startFrame b now).ppmHavePrev = s.ppmHavePrev := rfl
@[simp] theorem State.startFrame_ppmIdx : (s.startFrame b now).ppmIdx = s.ppmIdx := rfl
@[simp] theorem State.startFrame_ppmSynced : (s.startFrame b now).ppmSynced = s.ppmSynced := rfl
@[simp] theorem State.startFrame_ppmFrame : (s.startFrame b now).ppmFrame = s.ppmFrame := rfl
@[simp] theorem State.startFrame_port : (s.startFrame b now).port = s.port := rfl
@[simp] theorem State.startFrame_nowMs : (s.startFrame b now).nowMs = s.nowMs := rfl
@[simp] theorem State.startFrame_edgeTsUs : (s.startFrame b now).edgeTsUs = s.edgeTsUs := rfl
@[simp] theorem State.startFrame_rst : (s.startFrame b now).rst = s.rst := rfl
@[simp] theorem State.startFrame_responses : (s.startFrame b now).responses = s.responses := rfl
end

/-! `State.appendByte` -/

section
variable (s : State) (b : Byte)
@[simp] theorem State.appendByte_cfg : (s.appendByte b).cfg = s.cfg := rfl
@[simp] theorem State.appendByte_arrivals : (s.appendByte b).arrivals = s.arrivals := rfl
@[simp] theorem State.appendByte_proto : (s.appendByte b).proto = s.proto := rfl
@[simp] theorem State.appendByte_fsm : (s.appendByte b).fsm = s.fsm := rfl
@[simp] theorem State.appendByte_buf : (s.appendByte b).buf = s.buf.write s.idx b := rfl
@[simp] theorem State.appendByte_idx : (s.appendByte b).idx = s.idx + 1 := rfl
@[simp] theorem State.appendByte_flen : (s.appendByte b).flen = s.flen := rfl
@[simp] theorem State.appendByte_ch : (s.appendByte b).ch = s.ch := rfl
@[simp] theorem State.appendByte_tFrame : (s.appendByte b).tFrame = s.tFrame := rfl
@[simp] theorem State.appendByte_tValid : (s.appendByte b).tValid = s.tValid := rfl
@[simp] theorem State.appendByte_inputLost : (s.appendByte b).inputLost = s.inputLost := rfl
@[simp] theorem State.appendByte_lastStatus : (s.appendByte b).lastStatus = s.lastStatus := rfl
@[simp] theorem State.appendByte_accXor : (s.appendByte b).accXor = s.accXor := rfl
@[simp] theorem State.appendByte_accSub : (s.appendByte b).accSub = s.accSub := rfl
@[simp] theorem State.appendByte_accCrc : (s.appendByte b).accCrc = s.accCrc := rfl
@[simp] theorem State.appendByte_riseTs : (s.appendByte b).riseTs = s.riseTs := rfl
@[simp] theorem State.appendByte_riseValid : (s.appendByte b).riseValid = s.riseValid := rfl
@[simp] theorem State.appendByte_slot : (s.appendByte b).slot = s.slot := rfl
@[simp] theorem State.appendByte_tPulse : (s.appendByte b).tPulse = s.tPulse := rfl
@[simp] theorem State.appendByte_chFault : (s.appendByte b).chFault = s.chFault := rfl
@[simp] theorem State.appendByte_ppmPrev : (s.appendByte b).ppmPrev = s.ppmPrev := rfl
@[simp] theorem State.appendByte_ppmHavePrev : (s.appendByte b).ppmHavePrev = s.ppmHavePrev := rfl
@[simp] theorem State.appendByte_ppmIdx : (s.appendByte b).ppmIdx = s.ppmIdx := rfl
@[simp] theorem State.appendByte_ppmSynced : (s.appendByte b).ppmSynced = s.ppmSynced := rfl
@[simp] theorem State.appendByte_ppmFrame : (s.appendByte b).ppmFrame = s.ppmFrame := rfl
@[simp] theorem State.appendByte_port : (s.appendByte b).port = s.port := rfl
@[simp] theorem State.appendByte_nowMs : (s.appendByte b).nowMs = s.nowMs := rfl
@[simp] theorem State.appendByte_edgeTsUs : (s.appendByte b).edgeTsUs = s.edgeTsUs := rfl
@[simp] theorem State.appendByte_rst : (s.appendByte b).rst = s.rst := rfl
@[simp] theorem State.appendByte_responses : (s.appendByte b).responses = s.responses := rfl
end

/-! `State.sampleCommand` -/

section
variable (s : State) (c : CommandTransfer) (rest : List Arrival)
@[simp] theorem State.sampleCommand_cfg : (s.sampleCommand c rest).cfg = s.cfg := rfl
@[simp] theorem State.sampleCommand_arrivals : (s.sampleCommand c rest).arrivals = rest := rfl
@[simp] theorem State.sampleCommand_proto : (s.sampleCommand c rest).proto = s.proto := rfl
@[simp] theorem State.sampleCommand_fsm : (s.sampleCommand c rest).fsm = s.fsm := rfl
@[simp] theorem State.sampleCommand_buf : (s.sampleCommand c rest).buf = s.buf := rfl
@[simp] theorem State.sampleCommand_idx : (s.sampleCommand c rest).idx = s.idx := rfl
@[simp] theorem State.sampleCommand_flen : (s.sampleCommand c rest).flen = s.flen := rfl
@[simp] theorem State.sampleCommand_ch : (s.sampleCommand c rest).ch = s.ch := rfl
@[simp] theorem State.sampleCommand_tFrame : (s.sampleCommand c rest).tFrame = s.tFrame := rfl
@[simp] theorem State.sampleCommand_tValid : (s.sampleCommand c rest).tValid = s.tValid := rfl
@[simp] theorem State.sampleCommand_inputLost : (s.sampleCommand c rest).inputLost = s.inputLost := rfl
@[simp] theorem State.sampleCommand_lastStatus : (s.sampleCommand c rest).lastStatus = s.lastStatus := rfl
@[simp] theorem State.sampleCommand_accXor : (s.sampleCommand c rest).accXor = s.accXor := rfl
@[simp] theorem State.sampleCommand_accSub : (s.sampleCommand c rest).accSub = s.accSub := rfl
@[simp] theorem State.sampleCommand_accCrc : (s.sampleCommand c rest).accCrc = s.accCrc := rfl
@[simp] theorem State.sampleCommand_riseTs : (s.sampleCommand c rest).riseTs = s.riseTs := rfl
@[simp] theorem State.sampleCommand_riseValid : (s.sampleCommand c rest).riseValid = s.riseValid := rfl
@[simp] theorem State.sampleCommand_slot : (s.sampleCommand c rest).slot = s.slot := rfl
@[simp] theorem State.sampleCommand_tPulse : (s.sampleCommand c rest).tPulse = s.tPulse := rfl
@[simp] theorem State.sampleCommand_chFault : (s.sampleCommand c rest).chFault = s.chFault := rfl
@[simp] theorem State.sampleCommand_ppmPrev : (s.sampleCommand c rest).ppmPrev = s.ppmPrev := rfl
@[simp] theorem State.sampleCommand_ppmHavePrev : (s.sampleCommand c rest).ppmHavePrev = s.ppmHavePrev := rfl
@[simp] theorem State.sampleCommand_ppmIdx : (s.sampleCommand c rest).ppmIdx = s.ppmIdx := rfl
@[simp] theorem State.sampleCommand_ppmSynced : (s.sampleCommand c rest).ppmSynced = s.ppmSynced := rfl
@[simp] theorem State.sampleCommand_ppmFrame : (s.sampleCommand c rest).ppmFrame = s.ppmFrame := rfl
@[simp] theorem State.sampleCommand_port : (s.sampleCommand c rest).port = .command := rfl
@[simp] theorem State.sampleCommand_nowMs : (s.sampleCommand c rest).nowMs = c.nowMs := rfl
@[simp] theorem State.sampleCommand_edgeTsUs : (s.sampleCommand c rest).edgeTsUs = s.edgeTsUs := rfl
@[simp] theorem State.sampleCommand_rst : (s.sampleCommand c rest).rst = s.rst := rfl
@[simp] theorem State.sampleCommand_responses : (s.sampleCommand c rest).responses = s.responses := rfl
end

/-! `State.sampleEdge` -/

section
variable (s : State) (e : EdgeTransfer) (rest : List Arrival)
@[simp] theorem State.sampleEdge_cfg : (s.sampleEdge e rest).cfg = s.cfg := rfl
@[simp] theorem State.sampleEdge_arrivals : (s.sampleEdge e rest).arrivals = rest := rfl
@[simp] theorem State.sampleEdge_proto : (s.sampleEdge e rest).proto = s.proto := rfl
@[simp] theorem State.sampleEdge_fsm : (s.sampleEdge e rest).fsm = s.fsm := rfl
@[simp] theorem State.sampleEdge_buf : (s.sampleEdge e rest).buf = s.buf := rfl
@[simp] theorem State.sampleEdge_idx : (s.sampleEdge e rest).idx = s.idx := rfl
@[simp] theorem State.sampleEdge_flen : (s.sampleEdge e rest).flen = s.flen := rfl
@[simp] theorem State.sampleEdge_ch : (s.sampleEdge e rest).ch = s.ch := rfl
@[simp] theorem State.sampleEdge_tFrame : (s.sampleEdge e rest).tFrame = s.tFrame := rfl
@[simp] theorem State.sampleEdge_tValid : (s.sampleEdge e rest).tValid = s.tValid := rfl
@[simp] theorem State.sampleEdge_inputLost : (s.sampleEdge e rest).inputLost = s.inputLost := rfl
@[simp] theorem State.sampleEdge_lastStatus : (s.sampleEdge e rest).lastStatus = s.lastStatus := rfl
@[simp] theorem State.sampleEdge_accXor : (s.sampleEdge e rest).accXor = s.accXor := rfl
@[simp] theorem State.sampleEdge_accSub : (s.sampleEdge e rest).accSub = s.accSub := rfl
@[simp] theorem State.sampleEdge_accCrc : (s.sampleEdge e rest).accCrc = s.accCrc := rfl
@[simp] theorem State.sampleEdge_riseTs : (s.sampleEdge e rest).riseTs = s.riseTs := rfl
@[simp] theorem State.sampleEdge_riseValid : (s.sampleEdge e rest).riseValid = s.riseValid := rfl
@[simp] theorem State.sampleEdge_slot : (s.sampleEdge e rest).slot = s.slot := rfl
@[simp] theorem State.sampleEdge_tPulse : (s.sampleEdge e rest).tPulse = s.tPulse := rfl
@[simp] theorem State.sampleEdge_chFault : (s.sampleEdge e rest).chFault = s.chFault := rfl
@[simp] theorem State.sampleEdge_ppmPrev : (s.sampleEdge e rest).ppmPrev = s.ppmPrev := rfl
@[simp] theorem State.sampleEdge_ppmHavePrev : (s.sampleEdge e rest).ppmHavePrev = s.ppmHavePrev := rfl
@[simp] theorem State.sampleEdge_ppmIdx : (s.sampleEdge e rest).ppmIdx = s.ppmIdx := rfl
@[simp] theorem State.sampleEdge_ppmSynced : (s.sampleEdge e rest).ppmSynced = s.ppmSynced := rfl
@[simp] theorem State.sampleEdge_ppmFrame : (s.sampleEdge e rest).ppmFrame = s.ppmFrame := rfl
@[simp] theorem State.sampleEdge_port : (s.sampleEdge e rest).port = .edge := rfl
@[simp] theorem State.sampleEdge_nowMs : (s.sampleEdge e rest).nowMs = s.nowMs := rfl
@[simp] theorem State.sampleEdge_edgeTsUs : (s.sampleEdge e rest).edgeTsUs = e.edgeTsUs := rfl
@[simp] theorem State.sampleEdge_rst : (s.sampleEdge e rest).rst = s.rst := rfl
@[simp] theorem State.sampleEdge_responses : (s.sampleEdge e rest).responses = s.responses := rfl
end

/-! `State.sampleReset` -/

section
variable (s : State) (rest : List Arrival)
@[simp] theorem State.sampleReset_cfg : (s.sampleReset rest).cfg = s.cfg := rfl
@[simp] theorem State.sampleReset_arrivals : (s.sampleReset rest).arrivals = rest := rfl
@[simp] theorem State.sampleReset_proto : (s.sampleReset rest).proto = s.cfg.resetProto := rfl
@[simp] theorem State.sampleReset_fsm : (s.sampleReset rest).fsm = .idle := rfl
@[simp] theorem State.sampleReset_buf : (s.sampleReset rest).buf = [] := rfl
@[simp] theorem State.sampleReset_idx : (s.sampleReset rest).idx = 0 := rfl
@[simp] theorem State.sampleReset_flen : (s.sampleReset rest).flen = 0 := rfl
@[simp] theorem State.sampleReset_ch : (s.sampleReset rest).ch = Vector.replicate chEntries 0 := rfl
@[simp] theorem State.sampleReset_tFrame : (s.sampleReset rest).tFrame = 0 := rfl
@[simp] theorem State.sampleReset_tValid : (s.sampleReset rest).tValid = 0 := rfl
@[simp] theorem State.sampleReset_inputLost : (s.sampleReset rest).inputLost = true := rfl
@[simp] theorem State.sampleReset_lastStatus : (s.sampleReset rest).lastStatus = .none := rfl
@[simp] theorem State.sampleReset_accXor : (s.sampleReset rest).accXor = 0x00 := rfl
@[simp] theorem State.sampleReset_accSub : (s.sampleReset rest).accSub = 0xFFFF := rfl
@[simp] theorem State.sampleReset_accCrc : (s.sampleReset rest).accCrc = 0x00 := rfl
@[simp] theorem State.sampleReset_riseTs : (s.sampleReset rest).riseTs = Vector.replicate chEntries 0 := rfl
@[simp] theorem State.sampleReset_riseValid : (s.sampleReset rest).riseValid = Vector.replicate chEntries false := rfl
@[simp] theorem State.sampleReset_slot : (s.sampleReset rest).slot = Vector.replicate chEntries 0 := rfl
@[simp] theorem State.sampleReset_tPulse : (s.sampleReset rest).tPulse = Vector.replicate chEntries 0 := rfl
@[simp] theorem State.sampleReset_chFault : (s.sampleReset rest).chFault = Vector.replicate chEntries true := rfl
@[simp] theorem State.sampleReset_ppmPrev : (s.sampleReset rest).ppmPrev = 0 := rfl
@[simp] theorem State.sampleReset_ppmHavePrev : (s.sampleReset rest).ppmHavePrev = false := rfl
@[simp] theorem State.sampleReset_ppmIdx : (s.sampleReset rest).ppmIdx = 0 := rfl
@[simp] theorem State.sampleReset_ppmSynced : (s.sampleReset rest).ppmSynced = false := rfl
@[simp] theorem State.sampleReset_ppmFrame : (s.sampleReset rest).ppmFrame = false := rfl
@[simp] theorem State.sampleReset_port : (s.sampleReset rest).port = s.port := rfl
@[simp] theorem State.sampleReset_nowMs : (s.sampleReset rest).nowMs = s.nowMs := rfl
@[simp] theorem State.sampleReset_edgeTsUs : (s.sampleReset rest).edgeTsUs = s.edgeTsUs := rfl
@[simp] theorem State.sampleReset_rst : (s.sampleReset rest).rst = true := rfl
@[simp] theorem State.sampleReset_responses : (s.sampleReset rest).responses = s.responses := rfl
end

/-! `State.releaseReset` -/

section
variable (s : State) (rest : List Arrival)
@[simp] theorem State.releaseReset_cfg : (s.releaseReset rest).cfg = s.cfg := rfl
@[simp] theorem State.releaseReset_arrivals : (s.releaseReset rest).arrivals = rest := rfl
@[simp] theorem State.releaseReset_proto : (s.releaseReset rest).proto = s.proto := rfl
@[simp] theorem State.releaseReset_fsm : (s.releaseReset rest).fsm = s.fsm := rfl
@[simp] theorem State.releaseReset_buf : (s.releaseReset rest).buf = s.buf := rfl
@[simp] theorem State.releaseReset_idx : (s.releaseReset rest).idx = s.idx := rfl
@[simp] theorem State.releaseReset_flen : (s.releaseReset rest).flen = s.flen := rfl
@[simp] theorem State.releaseReset_ch : (s.releaseReset rest).ch = s.ch := rfl
@[simp] theorem State.releaseReset_tFrame : (s.releaseReset rest).tFrame = s.tFrame := rfl
@[simp] theorem State.releaseReset_tValid : (s.releaseReset rest).tValid = s.tValid := rfl
@[simp] theorem State.releaseReset_inputLost : (s.releaseReset rest).inputLost = s.inputLost := rfl
@[simp] theorem State.releaseReset_lastStatus : (s.releaseReset rest).lastStatus = s.lastStatus := rfl
@[simp] theorem State.releaseReset_accXor : (s.releaseReset rest).accXor = s.accXor := rfl
@[simp] theorem State.releaseReset_accSub : (s.releaseReset rest).accSub = s.accSub := rfl
@[simp] theorem State.releaseReset_accCrc : (s.releaseReset rest).accCrc = s.accCrc := rfl
@[simp] theorem State.releaseReset_riseTs : (s.releaseReset rest).riseTs = s.riseTs := rfl
@[simp] theorem State.releaseReset_riseValid : (s.releaseReset rest).riseValid = s.riseValid := rfl
@[simp] theorem State.releaseReset_slot : (s.releaseReset rest).slot = s.slot := rfl
@[simp] theorem State.releaseReset_tPulse : (s.releaseReset rest).tPulse = s.tPulse := rfl
@[simp] theorem State.releaseReset_chFault : (s.releaseReset rest).chFault = s.chFault := rfl
@[simp] theorem State.releaseReset_ppmPrev : (s.releaseReset rest).ppmPrev = s.ppmPrev := rfl
@[simp] theorem State.releaseReset_ppmHavePrev : (s.releaseReset rest).ppmHavePrev = s.ppmHavePrev := rfl
@[simp] theorem State.releaseReset_ppmIdx : (s.releaseReset rest).ppmIdx = s.ppmIdx := rfl
@[simp] theorem State.releaseReset_ppmSynced : (s.releaseReset rest).ppmSynced = s.ppmSynced := rfl
@[simp] theorem State.releaseReset_ppmFrame : (s.releaseReset rest).ppmFrame = s.ppmFrame := rfl
@[simp] theorem State.releaseReset_port : (s.releaseReset rest).port = s.port := rfl
@[simp] theorem State.releaseReset_nowMs : (s.releaseReset rest).nowMs = s.nowMs := rfl
@[simp] theorem State.releaseReset_edgeTsUs : (s.releaseReset rest).edgeTsUs = s.edgeTsUs := rfl
@[simp] theorem State.releaseReset_rst : (s.releaseReset rest).rst = false := rfl
@[simp] theorem State.releaseReset_responses : (s.releaseReset rest).responses = s.responses := rfl
end

/-! `State.skipTransfer` -/

section
variable (s : State) (rest : List Arrival)
@[simp] theorem State.skipTransfer_cfg : (s.skipTransfer rest).cfg = s.cfg := rfl
@[simp] theorem State.skipTransfer_arrivals : (s.skipTransfer rest).arrivals = rest := rfl
@[simp] theorem State.skipTransfer_proto : (s.skipTransfer rest).proto = s.proto := rfl
@[simp] theorem State.skipTransfer_fsm : (s.skipTransfer rest).fsm = s.fsm := rfl
@[simp] theorem State.skipTransfer_buf : (s.skipTransfer rest).buf = s.buf := rfl
@[simp] theorem State.skipTransfer_idx : (s.skipTransfer rest).idx = s.idx := rfl
@[simp] theorem State.skipTransfer_flen : (s.skipTransfer rest).flen = s.flen := rfl
@[simp] theorem State.skipTransfer_ch : (s.skipTransfer rest).ch = s.ch := rfl
@[simp] theorem State.skipTransfer_tFrame : (s.skipTransfer rest).tFrame = s.tFrame := rfl
@[simp] theorem State.skipTransfer_tValid : (s.skipTransfer rest).tValid = s.tValid := rfl
@[simp] theorem State.skipTransfer_inputLost : (s.skipTransfer rest).inputLost = s.inputLost := rfl
@[simp] theorem State.skipTransfer_lastStatus : (s.skipTransfer rest).lastStatus = s.lastStatus := rfl
@[simp] theorem State.skipTransfer_accXor : (s.skipTransfer rest).accXor = s.accXor := rfl
@[simp] theorem State.skipTransfer_accSub : (s.skipTransfer rest).accSub = s.accSub := rfl
@[simp] theorem State.skipTransfer_accCrc : (s.skipTransfer rest).accCrc = s.accCrc := rfl
@[simp] theorem State.skipTransfer_riseTs : (s.skipTransfer rest).riseTs = s.riseTs := rfl
@[simp] theorem State.skipTransfer_riseValid : (s.skipTransfer rest).riseValid = s.riseValid := rfl
@[simp] theorem State.skipTransfer_slot : (s.skipTransfer rest).slot = s.slot := rfl
@[simp] theorem State.skipTransfer_tPulse : (s.skipTransfer rest).tPulse = s.tPulse := rfl
@[simp] theorem State.skipTransfer_chFault : (s.skipTransfer rest).chFault = s.chFault := rfl
@[simp] theorem State.skipTransfer_ppmPrev : (s.skipTransfer rest).ppmPrev = s.ppmPrev := rfl
@[simp] theorem State.skipTransfer_ppmHavePrev : (s.skipTransfer rest).ppmHavePrev = s.ppmHavePrev := rfl
@[simp] theorem State.skipTransfer_ppmIdx : (s.skipTransfer rest).ppmIdx = s.ppmIdx := rfl
@[simp] theorem State.skipTransfer_ppmSynced : (s.skipTransfer rest).ppmSynced = s.ppmSynced := rfl
@[simp] theorem State.skipTransfer_ppmFrame : (s.skipTransfer rest).ppmFrame = s.ppmFrame := rfl
@[simp] theorem State.skipTransfer_port : (s.skipTransfer rest).port = s.port := rfl
@[simp] theorem State.skipTransfer_nowMs : (s.skipTransfer rest).nowMs = s.nowMs := rfl
@[simp] theorem State.skipTransfer_edgeTsUs : (s.skipTransfer rest).edgeTsUs = s.edgeTsUs := rfl
@[simp] theorem State.skipTransfer_rst : (s.skipTransfer rest).rst = s.rst := rfl
@[simp] theorem State.skipTransfer_responses : (s.skipTransfer rest).responses = s.responses := rfl
end

end Sys2Proof.Machine
end

