-- ==== Sys2Proof/Laws/ByteDecoder.lean ====
section
/-! SUPPORT. The byte decoder: what each step of RXB and of a byte-protocol UPD does, one lemma a function. -/

namespace Sys2Proof.Machine

variable {s t : State} {b : Byte} {now : Word} {ft : Nat}

theorem next_injective {a b : State} (h : (Host.Outcome.next a : Host.Outcome State Fault Refusal) = .next b) : a = b := by
  injection h

theorem isByteProto_of_frameTimeout (h : frameTimeout s.cfg s.proto = some ft) : isByteProto s.proto = true := by
  cases hp : s.proto <;> rw [hp] at h <;> first | rfl | simp [frameTimeout] at h

theorem byteProto_cases (h : isByteProto s.proto = true) : s.proto = .crsf ∨ s.proto = .sbus ∨ s.proto = .ibus := by
  cases hp : s.proto <;> rw [hp] at h <;> simp [isByteProto] at h ⊢

/-! The watchdogs. -/

theorem frameWatchdog_fires (h : frameTimeout s.cfg s.proto = some ft) (h1 : s.fsm ≠ .idle)
    (h2 : ft < (now - s.tFrame).toNat) : frameWatchdog now s = s.toIdle.withStatus .timeout := by
  unfold frameWatchdog
  rw [h]
  exact if_pos ⟨h1, (expired_iff ..).mpr h2⟩

theorem frameWatchdog_holds (h : frameTimeout s.cfg s.proto = some ft)
    (h1 : s.fsm = .idle ∨ (now - s.tFrame).toNat ≤ ft) : frameWatchdog now s = s := by
  unfold frameWatchdog
  rw [h]
  refine if_neg fun h2 => ?_
  have := (expired_iff ..).mp h2.2
  unfold elapsed at this
  rcases h1 with h1 | h1
  · exact h2.1 h1
  · omega

theorem frameWatchdog_idle (h : s.fsm = .idle) : frameWatchdog now s = s := by
  unfold frameWatchdog
  split
  · rfl
  · exact if_neg (by simp [h])

theorem linkWatchdog_eq (now : Word) (s : State) :
    linkWatchdog now s = if linkTimeout s.cfg s.proto < (now - s.tValid).toNat then s.loseLink else s := by
  unfold linkWatchdog
  exact if_congr (expired_iff ..) rfl rfl

/-! RXB and UPD on the command port. -/

theorem exec_rxb (b : Byte) (hp : s.port = .command) : exec (.rxb b) s = receiveByte b s.nowMs (s.respond false 0) := by
  show onCommandPort s _ = _
  rw [onCommandPort_command hp]

theorem exec_upd (hp : s.port = .command) : exec .upd s = .next (updateTick s.nowMs (s.respond false 0)) := by
  show onCommandPort s _ = _
  rw [onCommandPort_command hp]

theorem receiveByte_pulse (b : Byte) (now : Word) (h : isByteProto s.proto = false) : receiveByte b now s = .next s := by
  unfold receiveByte
  exact if_neg (by simp [h])

/-- Within the frame timeout the byte is examined in the state as it stands. -/
theorem exec_rxb_in_time (hp : s.port = .command) (h : frameTimeout s.cfg s.proto = some ft)
    (h1 : s.fsm = .idle ∨ (s.nowMs - s.tFrame).toNat ≤ ft) : exec (.rxb b) s = examineByte b s.nowMs (s.respond false 0) := by
  rw [exec_rxb b hp]
  unfold receiveByte
  have hb : isByteProto (s.respond false 0).proto = true := isByteProto_of_frameTimeout h
  rw [if_pos hb, frameWatchdog_holds (s := s.respond false 0) h h1]

theorem updateTick_byte (h : isByteProto s.proto = true) : updateTick now s = linkWatchdog now (frameWatchdog now s) := by
  unfold updateTick
  rcases byteProto_cases h with h | h | h <;> simp [h]

/-! The states of the frame-state machine. -/

theorem idleByte_crsf (h : s.proto = .crsf) (b : Byte) (now : Word) :
    idleByte b now s = if b = s.cfg.fixed.syncCrsf then { s.startFrame b now with fsm := .haveSync } else s := by
  unfold idleByte
  split <;> simp_all

theorem idleByte_sbus (h : s.proto = .sbus) (b : Byte) (now : Word) :
    idleByte b now s = if b = s.cfg.fixed.syncSbus then { s.startFrame b now with flen := s.cfg.fixed.sbusLen, fsm := .collecting } else s := by
  unfold idleByte
  split <;> simp_all

theorem idleByte_ibus (h : s.proto = .ibus) (b : Byte) (now : Word) :
    idleByte b now s = if b = s.cfg.fixed.hdr1Ibus then { s.startFrame b now with flen := s.cfg.fixed.ibusLen, fsm := .haveSync } else s := by
  unfold idleByte
  split <;> simp_all

/-- An appended byte that does not complete the frame. -/
theorem collectByte_append (hi : s.idx < s.cfg.fixed.frameBuf) (hl : s.idx + 1 ≠ s.flen) :
    collectByte b now s = .next (s.appendByte b) := by
  unfold collectByte
  rw [if_neg (by omega), if_neg hl]

/-- The byte that completes the frame. -/
theorem collectByte_complete (hi : s.idx < s.cfg.fixed.frameBuf) (hl : s.idx + 1 = s.flen) :
    collectByte b now s = complete now (s.appendByte b) := by
  unfold collectByte
  rw [if_neg (by omega), if_pos hl]

/-- The bytes of the buffer a checksum folds, through a function that reads like the buffer. -/
theorem Memory.slice_eq {m : Memory} {B : Nat → Byte} (h : ∀ a, m.byteAt a = B a) (lo n : Nat) :
    m.slice lo n = (List.range n).map fun k => B (lo + k) := by
  simp [Memory.slice, h]

/-- The completion of a frame ends in `Idle`, whatever the check decides; it stops only on a CRSF length past the buffer. -/
theorem complete_cases {t : State} (h : complete now s = .next t) :
    s.proto = .crsf ∧ (s.buf.byteAt 1).toNat + 1 < s.cfg.fixed.frameBuf ∧ t = (completeCrsf now s).toIdle ∨
    s.proto = .sbus ∧ t = (completeSbus now s).toIdle ∨ s.proto = .ibus ∧ t = (completeIbus now s).toIdle ∨
    isByteProto s.proto = false ∧ t = s.toIdle := by
  unfold complete at h
  split at h
  · next hp =>
    split at h
    · next hb => exact .inl ⟨hp, hb, (next_injective h).symm⟩
    · exact absurd h (by simp)
  · next hp => exact .inr (.inl ⟨hp, (next_injective h).symm⟩)
  · next hp => exact .inr (.inr (.inl ⟨hp, (next_injective h).symm⟩))
  · next hp => exact .inr (.inr (.inr ⟨by rw [hp]; rfl, (next_injective h).symm⟩))
  · next hp => exact .inr (.inr (.inr ⟨by rw [hp]; rfl, (next_injective h).symm⟩))

/-- What the check and acceptance of a CRSF frame can do. -/
theorem completeCrsf_cases (now : Word) (s : State) :
    completeCrsf now s = s.withStatus .badCk ∨ completeCrsf now s = s.withStatus .okIgn ∨
      completeCrsf now s = s.accept (unpackedChannels s .crsf 3) now := by
  unfold completeCrsf
  dsimp only
  split
  · exact .inl rfl
  · split
    · exact .inr (.inr rfl)
    · exact .inr (.inl rfl)

/-- What the check and acceptance of an SBUS frame can do. -/
theorem completeSbus_cases (now : Word) (s : State) :
    completeSbus now s = s.withStatus .badFoot ∨ completeSbus now s = s.loseLink.withStatus .failsafe ∨
      completeSbus now s = s.accept (unpackedChannels s .sbus 1) now := by
  unfold completeSbus
  split
  · exact .inl rfl
  · split
    · exact .inr (.inl rfl)
    · exact .inr (.inr rfl)

/-- What the check and acceptance of an IBUS frame can do. -/
theorem completeIbus_cases (now : Word) (s : State) :
    completeIbus now s = s.withStatus .badCk ∨ completeIbus now s = s.accept (ibusChannels s) now := by
  unfold completeIbus
  dsimp only
  split
  · exact .inl rfl
  · exact .inr rfl

end Sys2Proof.Machine
end

