-- ==== Sys2Proof/Laws/Datapath.lean ====
section
/-! SUPPORT. The datapath functions: the bits of a sum of bits, the locality of the unpacker, the injectivity of the checksum
steps. -/

namespace Sys2Proof.Machine

theorem sumBits_lt (f : Nat → Bool) (n : Nat) : sumBits f n < 2 ^ n := by
  induction n with
  | zero => simp [sumBits]
  | succ n ih => simp only [sumBits, Nat.pow_succ]; split <;> omega

/-- Bit `j` of `Σ_{j < n} f(j) << j` is `f(j)`. -/
theorem testBit_sumBits (f : Nat → Bool) (n j : Nat) : (sumBits f n).testBit j = (decide (j < n) && f j) := by
  induction n with
  | zero => simp [sumBits]
  | succ n ih =>
    simp only [sumBits]
    by_cases hf : f n
    · simp only [hf, if_true]
      rw [Nat.add_comm]
      rcases Nat.lt_trichotomy j n with h | h | h
      · rw [Nat.testBit_two_pow_add_gt h, ih]
        simp [h, show j < n + 1 by omega]
      · subst h
        rw [Nat.testBit_two_pow_add_eq, ih]
        simp [hf]
      · have h2 : 2 ^ n + sumBits f n < 2 ^ j := by
          have := sumBits_lt f n
          have : 2 ^ (n + 1) ≤ 2 ^ j := Nat.pow_le_pow_right (by omega) h
          rw [Nat.pow_succ] at this
          omega
        rw [Nat.testBit_lt_two_pow h2]
        simp [show ¬ j < n + 1 by omega]
    · rw [if_neg hf, Nat.add_zero, ih]
      by_cases hj : j = n
      · subst hj; simp [hf]
      · simp [show (j < n) ↔ (j < n + 1) by omega]

theorem testBit_unpack (B : Nat → Byte) (off i j : Nat) :
    (unpack B off i).testBit j = (decide (j < 11) && streamBit B off (11 * i + j)) := testBit_sumBits _ _ _

/-- The little-endian 16-bit field (20_memory.md rule R62) as a number. -/
theorem ibusRaw_eq (B : Nat → Byte) (i : Nat) : ibusRaw B i = (B (2 + 2 * i)).toNat + 256 * (B (3 + 2 * i)).toNat := by
  unfold ibusRaw
  rw [Nat.or_comm, ← Nat.shiftLeft_add_eq_or_of_lt (B (2 + 2 * i)).isLt, Nat.shiftLeft_eq]
  omega

/-! A round of `crc_step` has an inverse: bit 0 of its result tells which branch it took. -/

set_option maxRecDepth 4000 in
theorem crcRound_leftInverse : ∀ a : Byte,
    (if (crcRound a).getLsbD 0 then ((crcRound a ^^^ 0xD5) >>> 1) ||| 0x80 else crcRound a >>> 1) = a := by decide

theorem crcRound_injective : Function.Injective crcRound := fun a b h => by
  rw [← crcRound_leftInverse a, ← crcRound_leftInverse b, h]

theorem crcRounds_injective (n : Nat) : Function.Injective (Nat.repeat crcRound n) := by
  induction n with
  | zero => exact fun _ _ h => h
  | succ n ih => exact fun _ _ h => ih (crcRound_injective h)

theorem crcStep_injective_acc (b : Byte) : Function.Injective fun a => crcStep a b := fun _ _ h =>
  (BitVec.xor_left_inj b).mp (crcRounds_injective 8 h)

theorem crcStep_injective_byte (a : Byte) : Function.Injective (crcStep a) := fun _ _ h =>
  (BitVec.xor_right_inj a).mp (crcRounds_injective 8 h)

/-- A fold of injective steps is injective in its start. -/
theorem foldl_injective {α β : Type} {f : α → β → α} (hf : ∀ b, Function.Injective fun a => f a b) (bs : List β) :
    Function.Injective fun a => bs.foldl f a := by
  induction bs with
  | nil => exact fun _ _ h => h
  | cons b bs ih => exact fun _ _ h => hf b (ih h)

end Sys2Proof.Machine
end

