-- ==== Sys2Proof/Laws/Encoding.lean ====
section
/-! SUPPORT. The fields of a word the encoder builds, and the field values decoding reads. -/

namespace Sys2Proof

/-! The fields of `formatC` read back. -/

section
variable (op sub : BitVec 4) (idx data : Byte)

theorem opField_formatC : opField (formatC op sub idx data) = op := by
  apply BitVec.eq_of_getLsbD_eq
  intro i hi
  simp only [opField, formatC, BitVec.getLsbD_extractLsb', BitVec.getLsbD_append]
  interval_cases i <;> simp

theorem subField_formatC : subField (formatC op sub idx data) = sub := by
  apply BitVec.eq_of_getLsbD_eq
  intro i hi
  simp only [subField, formatC, BitVec.getLsbD_extractLsb', BitVec.getLsbD_append]
  interval_cases i <;> simp

theorem idxField_formatC : idxField (formatC op sub idx data) = idx := by
  apply BitVec.eq_of_getLsbD_eq
  intro i hi
  simp only [idxField, formatC, BitVec.getLsbD_extractLsb', BitVec.getLsbD_append]
  interval_cases i <;> simp

theorem dataField_formatC : dataField (formatC op sub idx data) = data := by
  apply BitVec.eq_of_getLsbD_eq
  intro i hi
  simp only [dataField, formatC, BitVec.getLsbD_extractLsb', BitVec.getLsbD_append]
  interval_cases i <;> simp
end

/-! The numbers the decoder matches on. -/

theorem opField_toNat {w : Word} {n : BitVec 4} (h : w.extractLsb' 28 4 = n) : (opField w).toNat = n.toNat := by
  rw [← h]; rfl

theorem subField_mod_four (w : Word) : (subField w).toNat % 4 = (w.extractLsb' 24 2).toNat := by
  simp only [subField, BitVec.extractLsb'_toNat]
  omega

theorem subField_mod_eight (w : Word) : (subField w).toNat % 8 = (w.extractLsb' 24 3).toNat := by
  simp only [subField, BitVec.extractLsb'_toNat]
  omega

end Sys2Proof
end

