-- ==== Sys2Proof/Laws/PulseDecoder.lean ====
section
/-! SUPPORT. The pulse decoders: which fields an edge and an update tick can write, and what one pass over a PWM channel does. -/

namespace Sys2Proof.Machine

theorem exec_edge {s : State} (ch : Nat) (lvl : Level) (hp : s.port = .edge) :
    exec (.edge ch lvl) s = .next (captureEdge ch lvl s.edgeTsUs s) := by
  show onEdgePort s _ = _
  rw [onEdgePort_edge hp]

theorem updateTick_ppm {s : State} (now : Word) (h : s.proto = .ppm) : updateTick now s = ppmUpdate now s := by
  unfold updateTick
  simp [h]

theorem updateTick_pwm {s : State} (now : Word) (h : s.proto = .pwm) : updateTick now s = pwmUpdate now s := by
  unfold updateTick
  simp [h]

theorem captureEdge_byte {s : State} (ch : Nat) (lvl : Level) (ts : Word) (h : isByteProto s.proto = true) :
    captureEdge ch lvl ts s = s := by
  unfold captureEdge
  rcases byteProto_cases h with h | h | h <;> simp [h]

theorem captureEdge_pwm {s : State} (ch : Nat) (lvl : Level) (ts : Word) (h : s.proto = .pwm) :
    captureEdge ch lvl ts s = pwmEdge ch lvl ts s := by
  unfold captureEdge
  simp [h]

theorem captureEdge_ppm {s : State} (ch : Nat) (lvl : Level) (ts : Word) (h : s.proto = .ppm) :
    captureEdge ch lvl ts s = ppmEdge ch lvl ts s := by
  unfold captureEdge
  simp [h]

/-- The fields a PWM edge can write. -/
theorem pwmEdge_frame (ch : Nat) (lvl : Level) (ts : Word) (s : State) :
    pwmEdge ch lvl ts s =
      { s with
        riseTs := (pwmEdge ch lvl ts s).riseTs, riseValid := (pwmEdge ch lvl ts s).riseValid
        slot := (pwmEdge ch lvl ts s).slot } := by
  unfold pwmEdge pwmRise pwmFall
  dsimp only
  repeat' split
  all_goals rfl

/-- The fields a PPM edge can write. -/
theorem ppmEdge_frame (ch : Nat) (lvl : Level) (ts : Word) (s : State) :
    ppmEdge ch lvl ts s =
      { s with
        ppmPrev := (ppmEdge ch lvl ts s).ppmPrev, ppmHavePrev := (ppmEdge ch lvl ts s).ppmHavePrev
        ppmIdx := (ppmEdge ch lvl ts s).ppmIdx, ppmSynced := (ppmEdge ch lvl ts s).ppmSynced
        ppmFrame := (ppmEdge ch lvl ts s).ppmFrame, lastStatus := (ppmEdge ch lvl ts s).lastStatus
        slot := (ppmEdge ch lvl ts s).slot } := by
  unfold ppmEdge ppmRise ppmSync ppmInterval
  dsimp only
  repeat' split
  all_goals rfl

/-- The fields one pass over a PWM channel can write. -/
theorem pwmConsume_frame (now : Word) (k : Nat) (s : State) :
    pwmConsume now k s =
      { s with
        slot := (pwmConsume now k s).slot, ch := (pwmConsume now k s).ch, tPulse := (pwmConsume now k s).tPulse
        chFault := (pwmConsume now k s).chFault } := by
  unfold pwmConsume
  dsimp only
  repeat' split
  all_goals rfl

theorem pwmTimeout_eq (now : Word) (k : Nat) (s : State) :
    pwmTimeout now k s =
      if s.cfg.ltPwm < (now - entry s.tPulse 0 k).toNat then
        { s with chFault := setEntry s.chFault k true, ch := setEntry s.ch k 0 }
      else s := by
  unfold pwmTimeout
  exact if_congr (expired_iff ..) rfl rfl

/-- The fields an UPD under PWM can write. -/
theorem pwmUpdate_frame (now : Word) (s : State) :
    pwmUpdate now s =
      { s with
        slot := (pwmUpdate now s).slot, ch := (pwmUpdate now s).ch, tPulse := (pwmUpdate now s).tPulse
        chFault := (pwmUpdate now s).chFault } := by
  refine forChannels_keeps
    (P := fun t => t = { s with slot := t.slot, ch := t.ch, tPulse := t.tPulse, chFault := t.chFault }) _ rfl ?_
  intro k t _ ht
  have hc := pwmConsume_frame now k t
  generalize pwmConsume now k t = u at hc
  have hu : u = { s with slot := u.slot, ch := u.ch, tPulse := u.tPulse, chFault := u.chFault } := by
    rw [hc]; dsimp only; rw [ht]
  rw [pwmTimeout_eq]
  split
  · rw [hu]
  · exact hu

/-- The fields one pass over a PPM channel can write. -/
theorem ppmConsume_frame (k : Nat) (s : State) :
    ppmConsume k s = { s with slot := (ppmConsume k s).slot, ch := (ppmConsume k s).ch } := by
  unfold ppmConsume
  dsimp only
  repeat' split
  all_goals rfl

theorem ppmTakeFrame_eq (now : Word) (s : State) :
    ppmTakeFrame now s =
      { s with
        ppmFrame := false, tValid := if s.ppmFrame then now else s.tValid
        inputLost := if s.ppmFrame then false else s.inputLost } := by
  unfold ppmTakeFrame
  cases hf : s.ppmFrame with
  | true => rfl
  | false => simp only [Bool.false_eq_true, if_false]; rw [← hf]

end Sys2Proof.Machine
end

