-- ==== Sys2Proof/Laws/Exec.lean ====
section
/-! SUPPORT. Everything one transaction can do: the inversion of `exec`. -/

namespace Sys2Proof.Machine

/-- What a transaction that answers `next t` has done to the state `s`. -/
inductive Effect (s : State) : Instr → State → Prop
  /-- Ignored on the wrong port (30_encoding.md rule R94). -/
  | ignored (i : Instr) : Effect s i s
  /-- A response and nothing else: a read, NOP or a refused word. -/
  | answer (i : Instr) (r : Response) : Effect s i { s with responses := s.responses ++ [r] }
  | select (p : Proto) :
      Effect s (.sel (.proto p)) ({ s.resetDecoder with proto := p }.respond false (p.code.setWidth 16))
  | accXor (i : Instr) (a : Byte) : (i = .cki .xor ∨ ∃ b, i = .ckf .xor b) →
      Effect s i ({ s with accXor := a }.respond false 0)
  | accSub (i : Instr) (a : Half) : (i = .cki .sub16 ∨ ∃ b, i = .ckf .sub16 b) →
      Effect s i ({ s with accSub := a }.respond false 0)
  | accCrc (i : Instr) (a : Byte) : (i = .cki .crc8 ∨ ∃ b, i = .ckf .crc8 b) →
      Effect s i ({ s with accCrc := a }.respond false 0)
  | receive (b : Byte) (t : State) : s.port = .command → receiveByte b s.nowMs (s.respond false 0) = .next t →
      Effect s (.rxb b) t
  | update : s.port = .command → Effect s .upd (updateTick s.nowMs (s.respond false 0))
  | edge (ch : Nat) (lvl : Level) : s.port = .edge → Effect s (.edge ch lvl) (captureEdge ch lvl s.edgeTsUs s)

/-- Every transaction has one of these effects. -/
theorem exec_effect {i : Instr} {s t : State} (h : exec i s = .next t) : Effect s i t := by
  cases i with
  | rxb b =>
    rcases onCommandPort_cases h with ⟨hp, hn⟩ | ⟨-, rfl⟩
    · exact .receive b t hp hn
    · exact .ignored _
  | upd =>
    rcases onCommandPort_cases h with ⟨hp, hn⟩ | ⟨-, rfl⟩
    · rw [← next_injective hn]; exact .update hp
    · exact .ignored _
  | edge ch lvl =>
    rcases onEdgePort_cases h with ⟨hp, hn⟩ | ⟨-, rfl⟩
    · rw [← next_injective hn]; exact .edge ch lvl hp
    · exact .answer _ _
  | sel p =>
    rcases onCommandPort_cases h with ⟨-, hn⟩ | ⟨-, rfl⟩
    · cases p <;> rw [← next_injective hn]
      · exact .select _
      · exact .answer _ _
    · exact .ignored _
  | cki u =>
    rcases onCommandPort_cases h with ⟨-, hn⟩ | ⟨-, rfl⟩
    · cases u <;> rw [← next_injective hn]
      · exact .accXor _ _ (.inl rfl)
      · exact .accSub _ _ (.inl rfl)
      · exact .accCrc _ _ (.inl rfl)
      · exact .answer _ _
    · exact .ignored _
  | ckf u b =>
    rcases onCommandPort_cases h with ⟨-, hn⟩ | ⟨-, rfl⟩
    · cases u <;> rw [← next_injective hn]
      · exact .accXor _ _ (.inr ⟨b, rfl⟩)
      · exact .accSub _ _ (.inr ⟨b, rfl⟩)
      · exact .accCrc _ _ (.inr ⟨b, rfl⟩)
      · exact .answer _ _
    · exact .ignored _
  | ckr u =>
    rcases onCommandPort_cases h with ⟨-, hn⟩ | ⟨-, rfl⟩
    · cases u <;> rw [← next_injective hn] <;> exact .answer _ _
    · exact .ignored _
  | rdch k =>
    rcases onCommandPort_cases h with ⟨-, hn⟩ | ⟨-, rfl⟩
    · split at hn <;> rw [← next_injective hn] <;> exact .answer _ _
    · exact .ignored _
  | rdflt q =>
    rcases onCommandPort_cases h with ⟨-, hn⟩ | ⟨-, rfl⟩
    · cases q <;> rw [← next_injective hn] <;> exact .answer _ _
    · exact .ignored _
  | _ =>
    rcases onCommandPort_cases h with ⟨-, hn⟩ | ⟨-, rfl⟩
    · rw [← next_injective hn]; exact .answer _ _
    · exact .ignored _

end Sys2Proof.Machine
end

