-- ==== Sys2Proof/Laws/PerInstr.lean ====
section
/-! SUPPORT. Statements about every transaction as syntax, one lemma a constructor. -/

namespace Sys2Proof.Laws.EncodesOpcode

/-- The opcode of a transaction's row (30_encoding.md rule R83). -/
def opcode : Instr → BitVec 4
  | .nop => 0x0
  | .rxb _ => 0x1
  | .upd => 0x2
  | .edge _ _ => 0x3
  | .sel _ => 0x4
  | .cki _ => 0x5
  | .ckf _ _ => 0x6
  | .ckr _ => 0x7
  | .rdch _ => 0x8
  | .rdflt _ => 0x9
  | .rdst => 0xA
  | .reservedB => 0xB
  | .reservedC => 0xC
  | .reservedD => 0xD
  | .reservedE => 0xE
  | .reservedF => 0xF

/-- The encoder writes the row's opcode and leaves `RSV` zero (30_encoding.md rules R83, R97). -/
def Statement (i : Instr) : Prop := opField (encode i) = opcode i ∧ (encode i).extractLsb' 16 8 = 0

/-- `RSV` of `formatC` is zero. -/
theorem rsv_formatC (op sub : BitVec 4) (idx data : Byte) : (formatC op sub idx data).extractLsb' 16 8 = 0 := by
  apply BitVec.eq_of_getLsbD_eq
  intro i hi
  simp only [formatC, BitVec.getLsbD_extractLsb', BitVec.getLsbD_append]
  interval_cases i <;> simp

theorem nop : Statement .nop := ⟨opField_formatC .., rsv_formatC ..⟩
theorem rxb (data : Byte) : Statement (.rxb data) := ⟨opField_formatC .., rsv_formatC ..⟩
theorem upd : Statement .upd := ⟨opField_formatC .., rsv_formatC ..⟩
theorem edge (ch : Nat) (lvl : Level) : Statement (.edge ch lvl) := ⟨opField_formatC .., rsv_formatC ..⟩
theorem sel (p : ProtoSel) : Statement (.sel p) := ⟨opField_formatC .., rsv_formatC ..⟩
theorem cki (u : CkUnit) : Statement (.cki u) := ⟨opField_formatC .., rsv_formatC ..⟩
theorem ckf (u : CkUnit) (data : Byte) : Statement (.ckf u data) := ⟨opField_formatC .., rsv_formatC ..⟩
theorem ckr (u : CkUnit) : Statement (.ckr u) := ⟨opField_formatC .., rsv_formatC ..⟩
theorem rdch (i : Nat) : Statement (.rdch i) := ⟨opField_formatC .., rsv_formatC ..⟩
theorem rdflt (q : FaultQuery) : Statement (.rdflt q) := ⟨opField_formatC .., rsv_formatC ..⟩
theorem rdst : Statement .rdst := ⟨opField_formatC .., rsv_formatC ..⟩
theorem reservedB : Statement .reservedB := ⟨opField_formatC .., rsv_formatC ..⟩
theorem reservedC : Statement .reservedC := ⟨opField_formatC .., rsv_formatC ..⟩
theorem reservedD : Statement .reservedD := ⟨opField_formatC .., rsv_formatC ..⟩
theorem reservedE : Statement .reservedE := ⟨opField_formatC .., rsv_formatC ..⟩
theorem reservedF : Statement .reservedF := ⟨opField_formatC .., rsv_formatC ..⟩

end Sys2Proof.Laws.EncodesOpcode
end

