-- ==== Sys2Proof/Tests/Slice0.lean ====
section
/-! SUPPORT. The model's own tests: ill-formed terms refused, words decoded, one step on a small state with the result of
95_test_vectors.md, and for every statement with hypotheses a state and operands that meet them. -/

namespace Sys2Proof.Tests

open Sys2Proof.Machine

/-! ## WellFormed refuses -/

theorem test_wf_edge_channel_above_255 : (Instr.edge 256 .rising).wellFormed = false := by decide
theorem test_wf_rdch_channel_above_255 : (Instr.rdch 256).wellFormed = false := by decide
theorem test_wf_rdflt_channel_above_255 : (Instr.rdflt (.channel 256)).wellFormed = false := by decide
theorem test_wf_sel_code_4_is_not_reserved : (Instr.sel (.reserved 4)).wellFormed = false := by decide
theorem test_wf_sel_code_above_3_bits : (Instr.sel (.reserved 8)).wellFormed = false := by decide

/-! ## Decoding: each word is `OP SUB RSV IDX DATA` of 30_encoding.md rule R82, written out from rules R83, R99 and R100 -/

theorem test_decode_nop : decode 0b0000_0000_00000000_00000000_00000000 = .nop := by decide
theorem test_decode_rxb : decode 0b0001_0000_00000000_00000000_11001000 = .rxb 0xC8 := by decide
theorem test_decode_upd : decode 0b0010_0000_00000000_00000000_00000000 = .upd := by decide
theorem test_decode_edge_falling : decode 0b0011_0000_00000000_00000011_00000000 = .edge 3 .falling := by decide
theorem test_decode_edge_rising : decode 0b0011_0000_00000000_00000010_00000001 = .edge 2 .rising := by decide
theorem test_decode_sel : decode 0b0100_0010_00000000_00000000_00000000 = .sel (.proto .ibus) := by decide
theorem test_decode_sel_reserved : decode 0b0100_0101_00000000_00000000_00000000 = .sel (.reserved 5) := by decide
theorem test_decode_cki : decode 0b0101_0001_00000000_00000000_00000000 = .cki .sub16 := by decide
theorem test_decode_ckf : decode 0b0110_0010_00000000_00000000_00010110 = .ckf .crc8 0x16 := by decide
theorem test_decode_ckr : decode 0b0111_0000_00000000_00000000_00000000 = .ckr .xor := by decide
theorem test_decode_rdch : decode 0b1000_0000_00000000_11111111_00000000 = .rdch 255 := by decide
theorem test_decode_rdflt : decode 0b1001_0010_00000000_00001110_00000000 = .rdflt (.channel 14) := by decide
theorem test_decode_rdst : decode 0b1010_0000_00000000_00000000_00000000 = .rdst := by decide
theorem test_decode_reservedB : decode 0b1011_0000_00000000_00000000_00000000 = .reservedB := by decide
theorem test_decode_reservedC : decode 0b1100_0000_00000000_00000000_00000000 = .reservedC := by decide
theorem test_decode_reservedD : decode 0b1101_0000_00000000_00000000_00000000 = .reservedD := by decide
theorem test_decode_reservedE : decode 0b1110_0000_00000000_00000000_00000000 = .reservedE := by decide
theorem test_decode_reservedF : decode 0b1111_1111_11111111_11111111_11111111 = .reservedF := by decide
/-- The assembler's two examples (30_encoding.md rule R97). -/
theorem test_encode : encode (.ckf .crc8 0x16) = 0x62000016 ∧ encode (.edge 3 .falling) = 0x30000300 := by decide
/-- The host's reading of a table row. -/
theorem test_decodeTableWord : decodeTableWord 32 0x4C000000 = some (.sel (.proto .pwm)) := by decide

/-! ## One step -/

/-- A view of the state after one step. -/
def stepped {α : Type} (s : State) (view : State → α) : Option α :=
  match step s with
  | .next t => some (view t)
  | .fault _ => none
  | .refused _ => none

/-- A view of the state after the step that runs the word. -/
def after {α : Type} (s : State) (w : Nat) (view : State → α) : Option α := stepped (s.withFetchWord 32 w) view

/-- The last response. -/
def answer (s : State) : Option Response := s.responses.getLast?

/-- A fresh decoder of a protocol. -/
def fresh (p : Proto) : State := { State.reset with proto := p }

/-- The CRSF frame of 95_test_vectors.md section 1.2 with its last byte still to come, at 100 ms. -/
def almostCrsf : State :=
  { fresh .crsf with
    fsm := .collecting, idx := 25, flen := 26, tFrame := 100, nowMs := 100
    buf := [(0, 0xC8), (1, 0x18), (2, 0x16), (3, 0xE0), (4, 0x03), (5, 0x1F), (6, 0xF8), (7, 0xC0), (8, 0x07), (9, 0x3E),
      (10, 0xF0), (11, 0x81), (12, 0x0F), (13, 0x7C)] ++
      [(14, 0xE0), (15, 0x03), (16, 0x1F), (17, 0xF8), (18, 0xC0), (19, 0x07), (20, 0x3E), (21, 0xF0), (22, 0x81),
      (23, 0x0F), (24, 0x7C)] }

/-- An SBUS frame of zero channels with its footer still to come; the flags byte is the argument. -/
def almostSbus (flags : Byte) : State :=
  { fresh .sbus with
    fsm := .collecting, idx := 24, flen := 25, tFrame := 100, nowMs := 100
    buf := if flags = 0 then [(0, 0x0F)] else [(0, 0x0F), (23, flags)] }

/-- An IBUS frame of zero channels with its last byte still to come: 0xFFFF - 0x20 - 0x40 = 0xFF9F (95_test_vectors.md 2.1). -/
def almostIbus : State :=
  { fresh .ibus with
    fsm := .collecting, idx := 31, flen := 32, tFrame := 100, nowMs := 100, buf := [(0, 0x20), (1, 0x40), (30, 0x9F)] }

/-- PWM with a pulse of 1500 us waiting on channel 2 (95_test_vectors.md section 2.8). -/
def pwmPulse : State := { fresh .pwm with slot := (Vector.replicate 16 0).set 2 1500, nowMs := 50 }

/-- PWM with channel 2 alive and the other channels faulted (95_test_vectors.md section 2.8). -/
def pwmAlive : State :=
  { fresh .pwm with ch := (Vector.replicate 16 0).set 2 1500, chFault := (Vector.replicate 16 true).set 2 false }

/-- PPM after eight intervals (95_test_vectors.md section 2.9). -/
def ppmFull : State :=
  { fresh .ppm with ppmHavePrev := true, ppmPrev := 20800, ppmSynced := true, ppmIdx := 8, edgeTsUs := 25800 }

/-- 95_test_vectors.md P6: a NOP with every ignored bit set. -/
theorem test_nop : after State.reset 0x0FFFFFFF answer = some (some ⟨false, 0⟩) := by decide

/-- 42_byte_decoders.md R151: the sync byte starts a frame at 100 ms. -/
theorem test_rxb_sync : after { State.reset with nowMs := 100 } 0x100000C8
    (fun t => (t.fsm, t.idx, t.buf, t.tFrame)) = some (.haveSync, 1, [(0, 0xC8)], 100) := by decide

set_option maxRecDepth 20000 in
/-- 95_test_vectors.md 1.2: the last byte 0xAD of the all-992 frame gives 16 channels of 1500. -/
theorem test_rxb_frame : after almostCrsf 0x100000AD
    (fun t => (entry t.ch 0 0, entry t.ch 0 15, t.inputLost, t.lastStatus, t.tValid)) =
      some (1500, 1500, false, .okCh, 100) := by decide

/-- 95_test_vectors.md 1.7: at elapsed time 60 the CRSF link holds, at 61 it is lost. -/
theorem test_upd_link :
    after { fresh .crsf with tValid := 100, inputLost := false, nowMs := 160 } 0x20000000 (·.inputLost) = some false ∧
    after { fresh .crsf with tValid := 100, inputLost := false, nowMs := 161 } 0x20000000 (·.inputLost) = some true := by
  decide

/-- 95_test_vectors.md 2.8: an UPD consumes the pulse. -/
theorem test_upd_pwm : after pwmPulse 0x20000000
    (fun t => (entry t.ch 0 2, entry t.chFault true 2, entry t.tPulse 0 2, entry t.slot 0 2)) =
      some (1500, false, 50, 0) := by decide

/-- 95_test_vectors.md 2.8: a width across the wrap of the timestamp. -/
theorem test_edge_pwm_wrap :
    after { fresh .pwm with riseTs := (Vector.replicate 16 0).set 0 0xFFFFFF00,
                            riseValid := (Vector.replicate 16 false).set 0 true, edgeTsUs := 0x000004DC }
      0x30000000 (fun t => (entry t.slot 0 0, entry t.riseValid true 0, t.responses)) = some (1500, false, []) := by decide

/-- 95_test_vectors.md 2.9: the closing sync gap completes a frame of eight intervals. -/
theorem test_edge_ppm_sync : after ppmFull 0x30000001
    (fun t => (t.ppmFrame, t.ppmIdx, t.ppmSynced, t.lastStatus)) = some (true, 0, true, .okCh) := by decide

/-- 70_reset_and_hazards.md R290: the byte that would complete the frame, in progress when `rst` is asserted, has no effect and
no response; nor has a command offered while `rst` is asserted. -/
theorem test_rst_cuts_off_a_transaction :
    stepped { almostCrsf with arrivals := [.assertRst (.command ⟨0x100000AD, 100⟩)] }
      (fun t => (t.fsm, t.inputLost, t.buf.byteAt 0, t.responses, t.rst)) = some (.idle, true, 0, [], true) := by decide

theorem test_rst_holds_off_a_transaction :
    stepped { State.reset with rst := true, arrivals := [.command ⟨0x71000000, 9⟩] }
      (fun t => (t.responses, t.nowMs, t.arrivals)) = some ([], 0, []) := by decide

/-- 44_control_readout.md R241: SEL SBUS answers (0, 1). -/
theorem test_sel : after almostCrsf 0x41000000 (fun t => (answer t, t.proto, t.fsm, t.buf)) =
    some (some ⟨false, 1⟩, .sbus, .idle, []) := by decide

/-- 95_test_vectors.md P6: SEL 5 is refused. -/
theorem test_sel_reserved : after State.reset 0x45000000 (fun t => (answer t, t.proto)) =
    some (some ⟨true, 0⟩, .crsf) := by decide

/-- 40_checksum.md R116. -/
theorem test_cki : after { State.reset with accSub := 0x1234 } 0x51000000 (fun t => (answer t, t.accSub)) =
    some (some ⟨false, 0⟩, 0xFFFF) := by decide

/-- 95_test_vectors.md 2.1: unit 3 is reserved. -/
theorem test_cki_reserved : after State.reset 0x53000000 answer = some (some ⟨true, 0⟩) := by decide

/-- 95_test_vectors.md 2.1: CRC8 of 0x01 is 0xD5. -/
theorem test_ckf_crc : after State.reset 0x62000001 (·.accCrc) = some 0xD5 := by decide

/-- 95_test_vectors.md 2.1: SUB16 wraps. -/
theorem test_ckf_sub : after { State.reset with accSub := 0 } 0x61000001 (·.accSub) = some 0xFFFF := by decide

/-- 95_test_vectors.md 2.1: CKR SUB16 after reset. -/
theorem test_ckr : after State.reset 0x71000000 answer = some (some ⟨false, 0xFFFF⟩) := by decide

/-- 44_control_readout.md R244: `RDCH 255` reads 0. -/
theorem test_rdch : after { State.reset with ch := Vector.replicate 16 1500 } 0x80000500 answer = some (some ⟨false, 1500⟩) ∧
    after { State.reset with ch := Vector.replicate 16 1500 } 0x8000FF00 answer = some (some ⟨false, 0⟩) := by decide

/-- 95_test_vectors.md 2.8: `RDFLT ALL`, `ANY`, `CH 2` and `CH 8` under PWM with channel 2 alive. -/
theorem test_rdflt : after pwmAlive 0x90000000 answer = some (some ⟨false, 0⟩) ∧
    after pwmAlive 0x91000000 answer = some (some ⟨false, 1⟩) ∧ after pwmAlive 0x92000200 answer = some (some ⟨false, 0⟩) ∧
    after pwmAlive 0x92000800 answer = some (some ⟨false, 1⟩) := by decide

/-- 44_control_readout.md R248: RDST straight after reset, and 95_test_vectors.md 2.8 under PWM. -/
theorem test_rdst : after State.reset 0xA0000000 answer = some (some ⟨false, 0x0020⟩) ∧
    after pwmAlive 0xA0000000 answer = some (some ⟨false, 0x0004⟩) := by decide

/-- 30_encoding.md R91: the reserved opcodes, and EDGE on the command port, are refused. -/
theorem test_reserved :
    after State.reset 0xB0000000 answer = some (some ⟨true, 0⟩) ∧ after State.reset 0xC0000000 answer = some (some ⟨true, 0⟩) ∧
    after State.reset 0xD0000000 answer = some (some ⟨true, 0⟩) ∧ after State.reset 0xE0000000 answer = some (some ⟨true, 0⟩) ∧
    after State.reset 0xFFFFFFFF answer = some (some ⟨true, 0⟩) := by decide

/-! ## Witnesses: for each statement with hypotheses, values that meet them together -/

/-- The block on the edge port. -/
def onEdge (p : Proto) : State := { fresh p with port := .edge }

theorem witness_DecodeEncodeRoundTrip : (Instr.edge 255 .rising).wellFormed = true ∧
    (Instr.rdflt (.channel 255)).wellFormed = true ∧ (Instr.sel (.reserved 7)).wellFormed = true := by decide

theorem witness_UnusedBitsHaveNoEffect :
    (0x4800FFFF : Word) &&& usedBits 0x4800FFFF = 0x40000000 &&& usedBits 0x4800FFFF ∧
    (0x91FF0EFF : Word) &&& usedBits 0x91FF0EFF = 0x95000000 &&& usedBits 0x91FF0EFF := by decide

theorem witness_StepRunsTheDecodedWord : configLegal State.reset.cfg = true ∧ State.reset.arrivals = [] ∧
    (State.reset.withFetchWord 32 0x20000000).arrivals = .command ⟨0x20000000, 0⟩ :: [] ∧
    (State.reset.withFetchWord 32 0x30000001).arrivals = .edge ⟨0x30000001, 0⟩ :: [] ∧
    ({ State.reset with arrivals := [.both ⟨0x30000001, 7⟩ ⟨0x20000000, 9⟩] } : State).arrivals =
      .both ⟨0x30000001, 7⟩ ⟨0x20000000, 9⟩ :: [] ∧
    ({ almostCrsf with arrivals := [.assertRst .nothing, .releaseRst] } : State).arrivals =
      .assertRst .nothing :: [.releaseRst] ∧
    ({ almostCrsf with rst := true, arrivals := [.releaseRst] } : State).arrivals = .releaseRst :: [] := by decide

theorem witness_SameCycleEdgeIsAppliedFirst : (fresh .pwm).rst = false ∧ ∃ t,
    step { fresh .pwm with arrivals := [.both ⟨0x30000001, 7⟩ ⟨0x20000000, 9⟩] } = .next t := ⟨rfl, _, rfl⟩

/-- `rst` cuts off the last byte of a frame; and a command is offered while `rst` is asserted. -/
theorem witness_ResetInputLoadsEveryField : configLegal almostCrsf.cfg = true ∧
    ({ almostCrsf with arrivals := [.assertRst (.command ⟨0x100000AD, 100⟩)] } : State).arrivals =
      .assertRst (.command ⟨0x100000AD, 100⟩) :: [] ∧
    ({ almostCrsf with rst := true, arrivals := [.command ⟨0x100000AD, 100⟩] } : State).rst = true := by decide

theorem witness_ResetStateIsTheResetInputsState : almostCrsf.cfg = Config.default := by decide

theorem witness_OnlyIllegalConfigurationsAreRejected :
    step { State.reset with cfg := { Config.default with nPpm := 0 } } = .fault .configRejected ∧
    ∃ t, step State.reset = .next t := ⟨rfl, _, rfl⟩

theorem witness_ReservedOpcodesAnswerAnError : State.reset.port = .command ∧
    (0x30000201 : Word).extractLsb' 28 4 = 0x3 ∧ 0xB ≤ ((0xB0000000 : Word).extractLsb' 28 4).toNat ∧
    0xB ≤ ((0xFFFFFFFF : Word).extractLsb' 28 4).toNat := by decide

theorem witness_ReservedSubValuesAnswerAnError : State.reset.port = .command ∧
    ((0x45000000 : Word).extractLsb' 28 4 = 0x4 ∧ 5 ≤ ((0x45000000 : Word).extractLsb' 24 3).toNat) ∧
    ((0x57000000 : Word).extractLsb' 28 4 = 0x5 ∧ (0x57000000 : Word).extractLsb' 24 2 = 0x3) ∧
    ((0x93000000 : Word).extractLsb' 28 4 = 0x9 ∧ (0x93000000 : Word).extractLsb' 24 2 = 0x3) := by decide

theorem witness_EdgePortIgnoresOtherWords : (onEdge .pwm).port = .edge ∧ (0x20000000 : Word).extractLsb' 28 4 ≠ 0x3 := by
  decide

theorem witness_OneResponseForEachCommand : (∃ t, exec .rdst State.reset = .next t) ∧
    (∃ t, exec (.edge 0 .rising) State.reset = .next t) ∧ State.reset.port = .command ∧
    (∃ t, exec (.edge 0 .rising) (onEdge .ppm) = .next t) ∧ (onEdge .ppm).port = .edge :=
  ⟨⟨_, rfl⟩, ⟨_, rfl⟩, rfl, ⟨_, rfl⟩, rfl⟩

theorem witness_NopAnswersAndWritesNothing : almostCrsf.port = .command ∧ (0x0FFFFFFF : Word).extractLsb' 28 4 = 0x0 := by
  decide

theorem witness_SelConstructsTheDecoder : almostCrsf.port = .command ∧ (0x44000000 : Word).extractLsb' 28 4 = 0x4 ∧
    ((0x44000000 : Word).extractLsb' 24 3).toNat < 5 := by decide

theorem witness_ResetEqualsSelectingTheResetProtocol : almostCrsf.port = .command ∧ almostCrsf.accXor = 0x00 ∧
    almostCrsf.accSub = 0xFFFF ∧ almostCrsf.accCrc = 0x00 := by decide

theorem witness_RdchReadsALiveChannel : (fresh .ibus).port = .command ∧ (0x80000D00 : Word).extractLsb' 28 4 = 0x8 ∧
    ((0x80000D00 : Word).extractLsb' 8 8).toNat < nChannels (fresh .ibus).cfg (fresh .ibus).proto ∧
    ¬ ((0x80000E00 : Word).extractLsb' 8 8).toNat < nChannels (fresh .ibus).cfg (fresh .ibus).proto := by decide

theorem witness_UnifiedFaultQuery : (fresh .ibus).port = .command ∧ (fresh .ibus).proto ≠ .pwm ∧
    (0x90000000 : Word).extractLsb' 28 4 = 0x9 ∧ (0x90000000 : Word).extractLsb' 24 2 = 0x0 ∧
    (0x91000000 : Word).extractLsb' 24 2 = 0x1 ∧ (0x92000E00 : Word).extractLsb' 24 2 = 0x2 := by decide

theorem witness_PwmFaultQuery : pwmAlive.port = .command ∧ pwmAlive.proto = .pwm ∧
    (0x90000000 : Word).extractLsb' 28 4 = 0x9 ∧ (0x90000000 : Word).extractLsb' 24 2 = 0x0 ∧
    (0x91000000 : Word).extractLsb' 24 2 = 0x1 ∧ (0x92000800 : Word).extractLsb' 24 2 = 0x2 := by decide

theorem witness_RdstAssemblesTheStatusWord : pwmAlive.port = .command ∧ (0xA0000000 : Word).extractLsb' 28 4 = 0xA ∧
    pwmAlive.proto = .pwm ∧ almostCrsf.port = .command ∧ almostCrsf.proto ≠ .pwm := by decide

theorem witness_CkiInitialisesOneUnit : State.reset.port = .command ∧ (0x50000000 : Word).extractLsb' 28 4 = 0x5 ∧
    (0x50000000 : Word).extractLsb' 24 2 = 0x0 ∧ (0x51000000 : Word).extractLsb' 24 2 = 0x1 ∧
    (0x52000000 : Word).extractLsb' 24 2 = 0x2 ∧ (0x53000000 : Word).extractLsb' 24 2 = 0x3 := by decide

theorem witness_CkfFeedsOneUnit : State.reset.port = .command ∧ (0x600000AA : Word).extractLsb' 28 4 = 0x6 ∧
    (0x600000AA : Word).extractLsb' 24 2 = 0x0 ∧ (0x610000AA : Word).extractLsb' 24 2 = 0x1 ∧
    (0x620000AA : Word).extractLsb' 24 2 = 0x2 ∧ (0x630000AA : Word).extractLsb' 24 2 = 0x3 := by decide

theorem witness_CkrReadsOneUnit : State.reset.port = .command ∧ (0x70000000 : Word).extractLsb' 28 4 = 0x7 ∧
    (0x70000000 : Word).extractLsb' 24 2 = 0x0 ∧ (0x71000000 : Word).extractLsb' 24 2 = 0x1 ∧
    (0x72000000 : Word).extractLsb' 24 2 = 0x2 ∧ (0x73000000 : Word).extractLsb' 24 2 = 0x3 := by decide

theorem witness_AccumulatorsFoldTheBytesFed : State.reset.port = .command ∧
    (∀ u, Instr.cki u ∉ [.ckf .xor 0xAA, .sel (.proto .sbus), .ckf .crc8 0x16]) ∧
    ∃ t, runAll [.ckf .xor 0xAA, .sel (.proto .sbus), .ckf .crc8 0x16] State.reset = .next t :=
  ⟨rfl, by simp, _, rfl⟩

theorem witness_ChecksumSequenceAnswersTheLibraryFunction : almostCrsf.port = .command := by decide

theorem witness_ChecksumLaws : [(0xAA : Byte), 0x55].Perm [0x55, 0xAA] ∧ (0x00 : Byte) ≠ 0x01 := by decide

theorem witness_UnpackInvertsPack : (∀ i < 16, (fun i => 129 * i) i < 2048) ∧
    ∀ k < 22, (fun a => packedByte (fun i => 129 * i) (a - 3)) (3 + k) = packedByte (fun i => 129 * i) k :=
  ⟨by decide, fun k _ => by simp⟩

theorem witness_UnpackReadsTwentyTwoBytes : 15 < 16 ∧
    ∀ k < 22, (fun _ => 0 : Nat → Byte) (1 + k) = (fun a => if a < 23 then 0 else 0xFF : Nat → Byte) (1 + k) := by decide

/-- The band of calibration 172 to 1811, threshold 100: its edges 72 and 1911 and the samples next to them. -/
theorem witness_NormalizerBandEdges : configLegal Config.default = true ∧
    (172 : Nat) < 1811 ∧ 71 + 100 < 172 ∧ 1811 + 100 < 1912 ∧
    172 ≤ 72 + 100 ∧ 72 ≤ 172 ∧ 1811 ≤ 1911 ∧ 1911 ≤ 1811 + 100 ∧ (1000 : Nat) < 2000 ∧ 1000 ≤ 900 + 100 ∧ 2100 ≤ 2000 + 100 := by
  decide

theorem witness_NormalizerOutputSet : configLegal Config.default = true ∧
    (172 : Nat) < 1811 ∧ 991 ≤ 992 ∧ normalizeNat Config.default.fixed ⟨172, 1811, 100⟩ 991 ≠ 0 ∧
    normalizeNat Config.default.fixed ⟨172, 1811, 100⟩ 992 ≠ 0 := by decide

theorem witness_RxbIgnoredUnderPulseProtocols : (fresh .ppm).port = .command ∧ (fresh .ppm).proto = .ppm ∧
    (fresh .pwm).proto = .pwm := by decide

/-- At elapsed time 3 the CRSF frame timeout of 2 has passed, at 2 it has not (95_test_vectors.md 1.6). -/
theorem witness_MidFrameWatchdogForcesIdle : almostCrsf.port = .command ∧
    frameTimeout almostCrsf.cfg almostCrsf.proto = some 2 ∧ almostCrsf.fsm ≠ .idle ∧
    2 < ((103 : Word) - almostCrsf.tFrame).toNat ∧ ((102 : Word) - almostCrsf.tFrame).toNat ≤ 2 := by decide

theorem witness_IdleDiscardsOtherBytes : configLegal (fresh .crsf).cfg = true ∧
    (fresh .crsf).port = .command ∧ (fresh .crsf).fsm = .idle ∧
    ((fresh .crsf).proto = .crsf ∧ (0x0F : Byte) ≠ 0xC8) ∧ ((fresh .sbus).proto = .sbus ∧ (0x20 : Byte) ≠ 0x0F) ∧
    ((fresh .ibus).proto = .ibus ∧ (0x40 : Byte) ≠ 0x20) := by decide

theorem witness_SyncByteStartsAFrame : configLegal (fresh .crsf).cfg = true ∧
    (fresh .crsf).port = .command ∧ (fresh .crsf).fsm = .idle ∧
    (fresh .crsf).proto = .crsf ∧ (fresh .sbus).proto = .sbus ∧ (fresh .ibus).proto = .ibus := by decide

/-- The lengths at the edges of the range: 3 and 62 inside, 2 and 63 outside. -/
theorem witness_CrsfLengthByte : configLegal (fresh .crsf).cfg = true ∧
    (fresh .crsf).port = .command ∧ (fresh .crsf).proto = .crsf ∧
    ({ fresh .crsf with fsm := .haveSync } : State).fsm = .haveSync ∧
    ((fresh .crsf).nowMs - (fresh .crsf).tFrame).toNat ≤ (fresh .crsf).cfg.ftCrsf ∧
    3 ≤ (0x03 : Byte).toNat ∧ (0x3E : Byte).toNat ≤ 62 ∧ (0x02 : Byte).toNat < 3 ∧ 62 < (0x3F : Byte).toNat := by decide

theorem witness_IbusSecondHeaderByte : configLegal (fresh .ibus).cfg = true ∧
    (fresh .ibus).port = .command ∧ (fresh .ibus).proto = .ibus ∧
    ({ fresh .ibus with fsm := .haveSync } : State).fsm = .haveSync ∧
    ((fresh .ibus).nowMs - (fresh .ibus).tFrame).toNat ≤ (fresh .ibus).cfg.ftIbus ∧ (0x41 : Byte) ≠ 0x40 := by decide

theorem witness_CollectingAppendsOneByte : configLegal almostCrsf.cfg = true ∧
    almostCrsf.port = .command ∧ almostCrsf.fsm = .collecting ∧
    frameTimeout almostCrsf.cfg almostCrsf.proto = some 2 ∧ (almostCrsf.nowMs - almostCrsf.tFrame).toNat ≤ 2 ∧
    (({ almostCrsf with idx := 24 } : State).idx < 64 ∧ ({ almostCrsf with idx := 24 } : State).idx + 1 ≠ 26) ∧
    64 ≤ ({ almostCrsf with idx := 64 } : State).idx := by decide

set_option maxRecDepth 20000 in
/-- The right check byte 0xAD and a wrong one 0xAC of the all-992 frame (95_test_vectors.md 1.2 and 2.4). -/
theorem witness_CrsfFrameCompletion : configLegal almostCrsf.cfg = true ∧
    almostCrsf.port = .command ∧ almostCrsf.proto = .crsf ∧
    almostCrsf.fsm = .collecting ∧ (almostCrsf.nowMs - almostCrsf.tFrame).toNat ≤ almostCrsf.cfg.ftCrsf ∧
    almostCrsf.idx < 64 ∧ almostCrsf.idx + 1 = almostCrsf.flen ∧ (almostCrsf.buf.byteAt 1).toNat ≤ 62 ∧
    crsfCheckByte almostCrsf.cfg ((List.range 23).map fun k => almostCrsf.buf.byteAt (2 + k)) = 0xAD := by decide

theorem witness_SbusFrameCompletion : configLegal (almostSbus 0).cfg = true ∧
    (almostSbus 0).port = .command ∧ (almostSbus 0).proto = .sbus ∧
    (almostSbus 0).fsm = .collecting ∧ ((almostSbus 0).nowMs - (almostSbus 0).tFrame).toNat ≤ (almostSbus 0).cfg.ftSbus ∧
    (almostSbus 0).idx < 64 ∧ (almostSbus 0).idx + 1 = (almostSbus 0).flen ∧
    ((almostSbus 0).buf.byteAt 23).getLsbD 3 = false ∧ ((almostSbus 0x08).buf.byteAt 23).getLsbD 3 = true := by decide

theorem witness_IbusFrameCompletion : configLegal almostIbus.cfg = true ∧
    almostIbus.port = .command ∧ almostIbus.proto = .ibus ∧
    almostIbus.fsm = .collecting ∧ (almostIbus.nowMs - almostIbus.tFrame).toNat ≤ almostIbus.cfg.ftIbus ∧
    almostIbus.idx < 64 ∧ almostIbus.idx + 1 = almostIbus.flen ∧
    (ibusChecksum16 ((List.range 30).map almostIbus.buf.byteAt)).toNat = 0x9F + 256 * 0xFF := by decide

/-- A frame of zero channels of each byte protocol: CRSF with its CRC, SBUS with bit 2 (frame lost) set, IBUS with its check
0xFF9F. -/
def zeroFrame : Proto → List Byte
  | .crsf => [0xC8, 0x18, 0x16] ++ List.replicate 22 0 ++ [crsfCheckByte Config.default (0x16 :: List.replicate 22 0)]
  | .sbus => [0x0F] ++ List.replicate 22 0 ++ [0x04, 0x00]
  | .ibus => [0x20, 0x40] ++ List.replicate 28 0 ++ [0x9F, 0xFF]
  | .ppm => []
  | .pwm => []

theorem zeroFrame_crsf : ChannelFrame Config.default .crsf (zeroFrame .crsf) := ⟨List.replicate 22 0, rfl, rfl⟩

theorem zeroFrame_sbus : ChannelFrame Config.default .sbus (zeroFrame .sbus) := ⟨List.replicate 22 0, 0x04, rfl, rfl, rfl⟩

theorem zeroFrame_ibus : ChannelFrame Config.default .ibus (zeroFrame .ibus) := ⟨List.replicate 28 0, rfl, by decide⟩

/-- The times of a frame whose bytes all arrive at 100 ms. -/
theorem sameTime (n ft : Nat) : (List.replicate n (100 : Word)).length = n ∧
    ∀ t ∈ List.replicate n (100 : Word), (t - (List.replicate n (100 : Word)).headD 0).toNat ≤ ft := by
  refine ⟨List.length_replicate, fun t h => ?_⟩
  cases n with
  | zero => cases h
  | succ n => rw [List.eq_of_mem_replicate h]; simp [List.replicate_succ]

/-- A frame of each byte protocol, delivered in one millisecond (`sameTime`). -/
theorem witness_WholeFrameIsDecoded : configLegal Config.default = true ∧
    (∀ p, (fresh p).cfg = Config.default ∧ (fresh p).port = .command ∧ (fresh p).fsm = .idle ∧ (fresh p).proto = p) ∧
    ChannelFrame Config.default .crsf (zeroFrame .crsf) ∧ ChannelFrame Config.default .sbus (zeroFrame .sbus) ∧
    ChannelFrame Config.default .ibus (zeroFrame .ibus) ∧ frameTimeout Config.default .crsf = some 2 ∧
    frameTimeout Config.default .sbus = some 4 ∧ frameTimeout Config.default .ibus = some 4 ∧
    ∀ n ft, (List.replicate n (100 : Word)).length = n ∧
      ∀ t ∈ List.replicate n (100 : Word), (t - (List.replicate n (100 : Word)).headD 0).toNat ≤ ft :=
  ⟨by decide, fun _ => ⟨rfl, rfl, rfl, rfl⟩, zeroFrame_crsf, zeroFrame_sbus, zeroFrame_ibus, rfl, rfl, rfl, sameTime⟩

/-- The same frames and times with a stray byte before them: the CRSF and the IBUS sync byte themselves, and 0x0E under SBUS. -/
theorem witness_FrameAfterAStrayByteIsDecoded : configLegal Config.default = true ∧
    (∀ p, (fresh p).cfg = Config.default ∧ (fresh p).port = .command ∧ (fresh p).fsm = .idle ∧ (fresh p).proto = p) ∧
    (ChannelFrame Config.default .crsf (zeroFrame .crsf) ∧ ((fresh .crsf).proto = .sbus → (0xC8 : Byte) ≠ 0x0F)) ∧
    (ChannelFrame Config.default .ibus (zeroFrame .ibus) ∧ ((fresh .ibus).proto = .sbus → (0x20 : Byte) ≠ 0x0F)) ∧
    (ChannelFrame Config.default .sbus (zeroFrame .sbus) ∧ ((fresh .sbus).proto = .sbus → (0x0E : Byte) ≠ 0x0F)) ∧
    frameTimeout Config.default .crsf = some 2 ∧ frameTimeout Config.default .sbus = some 4 ∧
    frameTimeout Config.default .ibus = some 4 ∧
    ∀ n ft, (List.replicate n (100 : Word)).length = n ∧
      ∀ t ∈ List.replicate n (100 : Word), (t - (List.replicate n (100 : Word)).headD 0).toNat ≤ ft :=
  ⟨by decide, fun _ => ⟨rfl, rfl, rfl, rfl⟩, ⟨zeroFrame_crsf, by decide⟩, ⟨zeroFrame_ibus, by decide⟩,
    ⟨zeroFrame_sbus, by decide⟩, rfl, rfl, rfl, sameTime⟩

/-- The watchdogs at their timeouts and one tick over. -/
theorem witness_UpdRunsTheByteWatchdogs : almostCrsf.port = .command ∧
    frameTimeout almostCrsf.cfg almostCrsf.proto = some 2 ∧
    (almostCrsf.fsm ≠ .idle ∧ 2 < ((103 : Word) - almostCrsf.tFrame).toNat) ∧ ((102 : Word) - almostCrsf.tFrame).toNat ≤ 2 ∧
    linkTimeout almostCrsf.cfg almostCrsf.proto < ((61 : Word) - almostCrsf.tValid).toNat ∧
    ((60 : Word) - almostCrsf.tValid).toNat ≤ linkTimeout almostCrsf.cfg almostCrsf.proto := by decide

/-- A channel that exists with a valid pulse, one whose timeout passes, and one that does not exist. -/
theorem witness_UpdConvertsEachPwmChannel : pwmPulse.port = .command ∧ pwmPulse.proto = .pwm ∧ pwmPulse.cfg.nPwm ≤ 16 ∧
    2 < pwmPulse.cfg.nPwm ∧ pwmPulse.cfg.nPwm ≤ 8 ∧
    normalize pwmPulse.cfg .pwm (entry pwmPulse.slot 0 2).toNat ≠ 0 ∧
    (pwmPulse.nowMs - pwmPulse.nowMs).toNat ≤ pwmPulse.cfg.ltPwm ∧
    pwmPulse.cfg.ltPwm < ((201 : Word) - entry pwmPulse.tPulse 0 0).toNat ∧
    ((200 : Word) - entry pwmPulse.tPulse 0 0).toNat ≤ pwmPulse.cfg.ltPwm := by decide

theorem witness_UpdConsumesPpmFrames : (fresh .ppm).port = .command ∧ (fresh .ppm).proto = .ppm ∧
    (fresh .ppm).cfg.nPpm ≤ 16 ∧ (fresh .ppm).cfg.ltPpm < ((226 : Word) - (fresh .ppm).tValid).toNat ∧
    ((225 : Word) - (fresh .ppm).tValid).toNat ≤ (fresh .ppm).cfg.ltPpm := by decide

theorem witness_IgnoredEdgesChangeNothing : (onEdge .pwm).port = .edge ∧
    ((onEdge .pwm).proto = .pwm ∧ (onEdge .pwm).cfg.nPwm ≤ 8) ∧ ((onEdge .ppm).proto = .ppm ∧ (1 : Nat) ≠ 0) ∧
    (onEdge .crsf).proto = .crsf ∧ (onEdge .sbus).proto = .sbus ∧ (onEdge .ibus).proto = .ibus := by decide

theorem witness_PwmEdgesMeasureThePulse : (onEdge .pwm).port = .edge ∧ (onEdge .pwm).proto = .pwm ∧
    7 < (onEdge .pwm).cfg.nPwm ∧ (onEdge .pwm).cfg.nPwm ≤ 16 ∧
    ((1500 : Word) - entry (onEdge .pwm).riseTs 0 7).toNat = 1500 ∧ ((100000 : Word) - entry (onEdge .pwm).riseTs 0 7).toNat = 100000 ∧
    ((0 : Word) - entry (onEdge .pwm).riseTs 0 7).toNat = 0 := by decide

/-- The first edge, and after it the intervals 2999 and 3000 on the two sides of the sync gap. -/
theorem witness_PpmEdgesAssembleTheFrame : (onEdge .ppm).port = .edge ∧ (onEdge .ppm).proto = .ppm ∧
    (onEdge .ppm).cfg.nPpm ≤ 16 ∧ (onEdge .ppm).cfg.ppmSyncUs ≤ 65535 ∧ (onEdge .ppm).ppmHavePrev = false ∧
    ppmFull.ppmHavePrev = true ∧ ppmFull.ppmSynced = true ∧ ppmFull.ppmIdx = ppmFull.cfg.nPpm ∧
    ppmFull.cfg.ppmSyncUs ≤ ((23800 : Word) - ppmFull.ppmPrev).toNat ∧
    ((23799 : Word) - ppmFull.ppmPrev).toNat < ppmFull.cfg.ppmSyncUs := by decide

theorem witness_OnlyTheNamedTransactionsWriteEachField : ∃ t,
    exec (.rxb 0xC8) State.reset = .next t ∧ t.fsm ≠ State.reset.fsm := ⟨_, rfl, by decide⟩

theorem witness_TransactionsKeepParametersAndInputs : ∃ t, exec .upd pwmPulse = .next t := ⟨_, rfl⟩

/-- The last byte of a valid frame, and an UPD that consumes a completed PPM frame, clear the loss. -/
theorem witness_LossIsLatchedUntilAValidFrame :
    (∃ t, exec (.rxb 0x00) (almostSbus 0) = .next t ∧ (almostSbus 0).inputLost = true ∧ t.inputLost = false) ∧
    ∃ t, exec .upd { fresh .ppm with ppmFrame := true } = .next t ∧ t.inputLost = false :=
  ⟨⟨_, rfl, rfl, by decide⟩, _, rfl, by decide⟩

theorem witness_LastStatusNeverChangesDecoding : Instr.upd ≠ .rdst ∧ ∃ t, exec .upd almostCrsf = .next t :=
  ⟨by decide, _, rfl⟩

theorem witness_AccumulatorsAreIndependentOfDecoding : (∀ k, Instr.upd ≠ .cki k) ∧ (∀ k b, Instr.upd ≠ .ckf k b) ∧
    (∀ k, Instr.upd ≠ .ckr k) ∧ ∃ t, exec .upd almostCrsf = .next t :=
  ⟨by simp, by simp, by simp, _, rfl⟩

theorem witness_ReadsSeeOneSnapshot :
    (∀ a ∈ [Arrival.both ⟨0x30000001, 7⟩ ⟨0x80000000, 9⟩], (∀ cut, a ≠ .assertRst cut) ∧
      ∀ c : CommandTransfer, (a = .command c ∨ ∃ e, a = .both e c) →
        c.word.extractLsb' 28 4 ≠ 0x1 ∧ c.word.extractLsb' 28 4 ≠ 0x2 ∧ c.word.extractLsb' 28 4 ≠ 0x4) ∧
    ∃ t, stepMany 2 { fresh .pwm with arrivals := [.both ⟨0x30000001, 7⟩ ⟨0x80000000, 9⟩] } = .next t := by
  refine ⟨?_, _, rfl⟩
  intro a ha
  cases List.mem_singleton.mp ha
  refine ⟨by simp, ?_⟩
  intro c hc
  rcases hc with hc | ⟨e, hc⟩
  · cases hc
  · cases hc
    decide

theorem witness_EdgeAndCommandCommute : ¬ (decode 0x80000000 = .upd ∧ ((fresh .ppm).proto = .ppm ∨ (fresh .ppm).proto = .pwm)) ∧
    (∀ p, decode 0x80000000 ≠ .sel p) ∧ ¬ (decode 0x80000000 = .rdst ∧ (fresh .ppm).proto = .ppm) ∧
    ∃ t, stepMany 2 { fresh .ppm with arrivals := .edge ⟨0x30000001, 7⟩ :: .command ⟨0x80000000, 9⟩ :: [] } = .next t := by
  have h : decode 0x80000000 = .rdch 0 := by decide
  rw [h]
  exact ⟨by decide, by simp, by decide, _, rfl⟩

theorem witness_ResetMeetsTheInvariants : configLegal { Config.default with nPpm := 1, nPwm := 16, crsfCheck := .xor } = true := by
  decide

/-- The state after the sync byte of an SBUS frame, with an RXB to come: the witness of the statements about invariants. -/
def midSbus : State :=
  { fresh .sbus with fsm := .collecting, idx := 1, flen := 25, buf := [(0, 0x0F)], arrivals := [.command ⟨0x10000000, 1⟩] }

theorem midSbus_ch (i : Nat) : entry midSbus.ch 0 i = 0 := entry_replicate_default _ _

theorem witness_StepsKeepTheInvariants : midSbus.Inv ∧ ∃ t, step midSbus = .next t := by
  refine ⟨?_, _, rfl⟩
  constructor
  case legal => decide
  case memory => decide
  case idle => decide
  case haveSync => decide
  case collecting => exact fun _ => ⟨by decide, by decide, by decide, by decide⟩
  case flen => decide
  case channelRange => exact fun i => .inl (by rw [midSbus_ch]; rfl)
  case unusedChannels => exact fun i _ => midSbus_ch i
  case lostLink => exact fun _ _ => rfl
  case faultedChannel => exact fun h => by cases h
  case ppmIdx => decide
  case byteFields => exact fun _ => ⟨rfl, rfl, rfl, rfl, rfl, rfl, rfl, rfl, rfl, rfl⟩
  case pulseFields => exact fun h => by cases h
  case pwmFields => exact fun h => by cases h
  case ppmFields => exact fun h => by cases h
  case rstHeld => exact fun h => by cases h

theorem witness_NoTransactionStopsTheBlock : midSbus.Inv := witness_StepsKeepTheInvariants.1

theorem witness_RxbAlwaysCompletes : midSbus.Inv ∧ midSbus.port = .command := ⟨witness_StepsKeepTheInvariants.1, rfl⟩

end Sys2Proof.Tests
end

/-! The step as an equation for each arrival, under a legal configuration (20_memory.md rule R69). -/

namespace Sys2Proof.Machine

section
variable {s : State} {rest : List Arrival} (hl : configLegal s.cfg = true)
include hl

theorem step_assertRst {cut : InProgress} (ha : s.arrivals = .assertRst cut :: rest) :
    step s = .next (s.sampleReset rest) := by simp [step, hl, ha]

theorem step_command {c : CommandTransfer} (ha : s.arrivals = .command c :: rest) :
    step s = s.unlessReset rest (exec (decode c.word) (s.sampleCommand c rest)) := by simp [step, hl, ha]

theorem step_edge {e : EdgeTransfer} (ha : s.arrivals = .edge e :: rest) :
    step s = s.unlessReset rest (exec (decode e.word) (s.sampleEdge e rest)) := by simp [step, hl, ha]

theorem step_both {e : EdgeTransfer} {c : CommandTransfer} (ha : s.arrivals = .both e c :: rest) :
    step s = s.unlessReset rest (exec (decode e.word) (s.sampleEdge e (.command c :: rest))) := by simp [step, hl, ha]

/-- While `rst` is asserted an offered transfer, on either port or on both, is skipped (70_reset_and_hazards.md rule R290). -/
theorem step_skips_transfer (hr : s.rst = true)
    (ho : (∃ c, s.arrivals = .command c :: rest) ∨ (∃ e, s.arrivals = .edge e :: rest) ∨
      ∃ e c, s.arrivals = .both e c :: rest) : step s = .next (s.skipTransfer rest) := by
  rcases ho with ⟨c, ha⟩ | ⟨e, ha⟩ | ⟨e, c, ha⟩
  · rw [step_command hl ha, unlessReset_asserted hr]
  · rw [step_edge hl ha, unlessReset_asserted hr]
  · rw [step_both hl ha, unlessReset_asserted hr]
end

end Sys2Proof.Machine

/-! RDST: the fields of the status word (10_state.md rule R39, 44_control_readout.md rule R248). -/

namespace Sys2Proof.Machine

theorem decode_rdst {w : Word} (h : w.extractLsb' 28 4 = 0xA) : decode w = .rdst := by
  simp [decode, opField_toNat h]

theorem exec_rdst {s : State} (hp : s.port = .command) : exec .rdst s = .next (s.respond false s.statusWord) :=
  onCommandPort_command hp

section
variable (s : State)

/-- The layout of `STATUS`: each field is reached by dropping the fields below it. -/
theorem statusWord_fields :
    s.statusWord.extractLsb' 0 3 = s.proto.code ∧ s.statusWord.extractLsb' 3 2 = s.fsm.code ∧
    s.statusWord.extractLsb' 5 1 = BitVec.ofBool s.linkLost ∧ s.statusWord.extractLsb' 6 2 = 0 ∧
    s.statusWord.extractLsb' 8 4 = s.lastStatus.code ∧ s.statusWord.extractLsb' 12 4 = 0 := by
  refine ⟨?_, ?_, ?_, ?_, ?_, ?_⟩ <;>
    simp (disch := omega) only [State.statusWord, BitVec.extractLsb'_append_eq_of_le,
      BitVec.extractLsb'_append_eq_of_add_le, BitVec.extractLsb'_eq_self, Nat.reduceSub, BitVec.ofNat_eq_ofNat]

theorem getLsbD_five_statusWord : s.statusWord.getLsbD 5 = s.linkLost := by
  obtain ⟨-, -, hlost, -⟩ := statusWord_fields s
  simpa using congrArg (BitVec.getLsbD · 0) hlost
end

section
variable {s : State}

/-- Outside PWM the link status is `INPUT_LOST`. -/
theorem linkLost_of_ne_pwm (h : s.proto ≠ .pwm) : s.linkLost = s.inputLost := by
  unfold State.linkLost
  split
  · next hpwm => exact absurd hpwm h
  all_goals rfl

/-- Under PWM the link is lost when every existing channel is faulted. -/
theorem linkLost_pwm_iff (h : s.proto = .pwm) :
    s.linkLost = true ↔ ∀ k < s.cfg.nPwm, entry s.chFault true k = true := by
  simp [State.linkLost, h, State.pwmAllFaulted, State.faultOf]
end

/-- Settles O20: the word RDST answers is `State.statusWord`, whose fields `statusWord_fields` reads back; its bit 5 is the
link status of the protocol. -/
theorem rdstAssemblesTheStatusWord : Obligations.RdstAssemblesTheStatusWord := by
  intro s w hport hop
  have hexec : exec (decode w) s = .next (s.respond false s.statusWord) := by rw [decode_rdst hop, exec_rdst hport]
  obtain ⟨hproto, hfsm, -, hzero6, hstatus, hzero12⟩ := statusWord_fields s
  refine ⟨s.statusWord, hexec, hproto, hfsm, hzero6, hstatus, hzero12, ?_, ?_⟩
  · intro hp
    rw [getLsbD_five_statusWord, linkLost_of_ne_pwm hp]
  · intro hp
    rw [getLsbD_five_statusWord, linkLost_pwm_iff hp]

/-- Settles O7: an assertion of `rst` leads to `State.sampleReset`, whose fields the state's laws read, and a transfer offered
while `rst` is asserted is skipped. -/
theorem resetInputLoadsEveryField : Obligations.ResetInputLoadsEveryField := by
  intro s rest hl
  constructor
  · intro cut ha
    refine ⟨s.sampleReset rest, step_assertRst hl ha, ?_⟩
    simp +contextual [Memory.byteAt, Status.code, entry_replicate]
  · intro hr ho
    exact ⟨s.skipTransfer rest, step_skips_transfer hl hr ho, rfl⟩

end Sys2Proof.Machine

/-! The row of a decoded word (30_encoding.md rule R83) and the operands its fields hold (rules R90, R99, R100). -/

namespace Sys2Proof.Machine

open Sys2Proof.Laws.EncodesOpcode (opcode)

section
variable {w : Word}

/-- `OP` alone selects the row (30_encoding.md rule R83). -/
theorem opcode_decode (w : Word) : opcode (decode w) = w.extractLsb' 28 4 := by
  change opcode (decode w) = opField w
  apply BitVec.eq_of_toNat_eq
  have hlt := (opField w).isLt
  unfold decode
  split
  case h_16 =>
    change 15 = (opField w).toNat
    simp only [imp_false] at *
    omega
  all_goals next hn => exact hn.symm

theorem decode_sel (h : w.extractLsb' 28 4 = 0x4) : decode w = .sel (decodeProtoSel (subField w)) := by
  simp [decode, opField_toNat h]

theorem decode_cki (h : w.extractLsb' 28 4 = 0x5) : decode w = .cki (decodeUnit (subField w)) := by
  simp [decode, opField_toNat h]

theorem decode_ckf (h : w.extractLsb' 28 4 = 0x6) : decode w = .ckf (decodeUnit (subField w)) (dataField w) := by
  simp [decode, opField_toNat h]

theorem decode_ckr (h : w.extractLsb' 28 4 = 0x7) : decode w = .ckr (decodeUnit (subField w)) := by
  simp [decode, opField_toNat h]

theorem decode_rdflt (h : w.extractLsb' 28 4 = 0x9) : decode w = .rdflt (decodeQuery (subField w) (idxField w)) := by
  simp [decode, opField_toNat h]

/-- The protocol codes from 5 on are reserved (30_encoding.md rule R93). -/
theorem decodeProtoSel_reserved (h : 5 ≤ (w.extractLsb' 24 3).toNat) : ∃ n, decodeProtoSel (subField w) = .reserved n := by
  unfold decodeProtoSel
  rw [subField_mod_eight]
  split
  case h_6 => exact ⟨_, rfl⟩
  all_goals omega

theorem decodeUnit_reserved (h : w.extractLsb' 24 2 = 0x3) : decodeUnit (subField w) = .reserved := by
  simp [decodeUnit, subField_mod_four, h]

theorem decodeQuery_reserved (h : w.extractLsb' 24 2 = 0x3) (idx : Byte) : decodeQuery (subField w) idx = .reserved := by
  simp [decodeQuery, subField_mod_four, h]
end

/-! Refused and ignored words (30_encoding.md rules R91, R93, R94). -/

section
variable {i : Instr} {s : State}

/-- The command port refuses reserved words, whatever their row. -/
theorem exec_refused (hp : s.port = .command) (h : RefusedOnCommandPort i) : exec i s = .next s.refuseWord := by
  cases i with
  | edge ch lvl => exact onEdgePort_command hp
  | sel p =>
    cases p with
    | proto p => exact h.elim
    | reserved code => exact onCommandPort_command hp
  | cki u =>
    cases u with
    | reserved => exact onCommandPort_command hp
    | _ => exact h.elim
  | ckf u data =>
    cases u with
    | reserved => exact onCommandPort_command hp
    | _ => exact h.elim
  | ckr u =>
    cases u with
    | reserved => exact onCommandPort_command hp
    | _ => exact h.elim
  | rdflt q =>
    cases q with
    | reserved => exact onCommandPort_command hp
    | _ => exact h.elim
  | nop | rxb | upd | rdch | rdst => exact h.elim
  | reservedB | reservedC | reservedD | reservedE | reservedF => exact onCommandPort_command hp

/-- The rows that are refused whatever their operands: EDGE and the reserved ones. -/
theorem refused_of_opcode (h : opcode i = 0x3 ∨ 0xB ≤ (opcode i).toNat) : RefusedOnCommandPort i := by
  cases i <;> simp [opcode, RefusedOnCommandPort] at h ⊢

theorem exec_edgePort_of_ne_edge (hp : s.port = .edge) (h : ∀ ch lvl, i ≠ .edge ch lvl) : exec i s = .next s := by
  cases i with
  | edge ch lvl => exact absurd rfl (h ch lvl)
  | _ => exact onCommandPort_edge hp
end

/-- Settles O10: the row of such a word is EDGE or a reserved one (`opcode_decode`), and these the command port refuses. -/
theorem reservedOpcodesAnswerAnError : Obligations.ReservedOpcodesAnswerAnError := by
  intro s w hport hop
  rw [← opcode_decode] at hop
  exact exec_refused hport (refused_of_opcode hop)

/-- Settles O11: such a word decodes to a transaction with a reserved operand, and these the command port refuses. -/
theorem reservedSubValuesAnswerAnError : Obligations.ReservedSubValuesAnswerAnError := by
  intro s w hport hsub
  refine exec_refused hport ?_
  rcases hsub with ⟨hop, hcode⟩ | ⟨hop | hop | hop, hunit⟩ | ⟨hop, hmode⟩
  · obtain ⟨n, hn⟩ := decodeProtoSel_reserved hcode
    rw [decode_sel hop, hn]
    trivial
  · rw [decode_cki hop, decodeUnit_reserved hunit]
    trivial
  · rw [decode_ckf hop, decodeUnit_reserved hunit]
    trivial
  · rw [decode_ckr hop, decodeUnit_reserved hunit]
    trivial
  · rw [decode_rdflt hop, decodeQuery_reserved hmode]
    trivial

/-- Settles O12: only OP 0x3 decodes to EDGE, and every other transaction is ignored on the edge port. -/
theorem edgePortIgnoresOtherWords : Obligations.EdgePortIgnoresOtherWords := by
  intro s w hport hop
  refine exec_edgePort_of_ne_edge hport fun ch lvl hedge => hop ?_
  rw [← opcode_decode, hedge]
  rfl

/-! Unused bits (30_encoding.md rule R92). -/

section
variable {w w' : Word}

/-- Words that agree under a mask agree in every field the mask covers. -/
theorem extractLsb'_eq_of_mask {m : Word} (h : w &&& m = w' &&& m) {start len : Nat}
    (hm : m.extractLsb' start len = BitVec.allOnes len) : w.extractLsb' start len = w'.extractLsb' start len := by
  simpa [BitVec.extractLsb'_and, hm] using congrArg (BitVec.extractLsb' start len) h

/-- Every row uses `OP`. -/
theorem extractLsb'_usedBits_op (w : Word) : (usedBits w).extractLsb' 28 4 = BitVec.allOnes 4 := by
  unfold usedBits
  split
  case h_8 => split <;> rfl
  all_goals rfl

theorem decodeProtoSel_congr (h : w.extractLsb' 24 3 = w'.extractLsb' 24 3) :
    decodeProtoSel (subField w) = decodeProtoSel (subField w') := by
  simp only [decodeProtoSel, subField_mod_eight, h]

theorem decodeUnit_congr (h : w.extractLsb' 24 2 = w'.extractLsb' 24 2) :
    decodeUnit (subField w) = decodeUnit (subField w') := by
  simp only [decodeUnit, subField_mod_four, h]

/-- `IDX` counts in mode CH only (30_encoding.md rule R90, 44_control_readout.md rule R245). -/
theorem decodeQuery_congr (h : w.extractLsb' 24 2 = w'.extractLsb' 24 2)
    (hi : (w.extractLsb' 24 2).toNat = 2 → idxField w = idxField w') :
    decodeQuery (subField w) (idxField w) = decodeQuery (subField w') (idxField w') := by
  unfold decodeQuery
  rw [subField_mod_four, subField_mod_four, ← h]
  split
  case h_3 hmode => rw [hi hmode]
  all_goals rfl

theorem decodeLevel_congr (h : w.extractLsb' 0 1 = w'.extractLsb' 0 1) :
    decodeLevel (dataField w) = decodeLevel (dataField w') := by
  have hbit : w[0] = w'[0] := by simpa using congrArg (BitVec.getLsbD · 0) h
  simp [decodeLevel, dataField, hbit]

/-- Decoding looks at the used bits only, one row of 30_encoding.md rule R83 a case. -/
theorem decode_eq_of_usedBits (h : w &&& usedBits w = w' &&& usedBits w) : decode w = decode w' := by
  have hop : w.extractLsb' 28 4 = w'.extractLsb' 28 4 := extractLsb'_eq_of_mask h (extractLsb'_usedBits_op w)
  unfold decode opField
  rw [← hop]
  split
  case h_2 hn =>
    simp only [usedBits, hn] at h
    exact congrArg Instr.rxb (extractLsb'_eq_of_mask h rfl)
  case h_4 hn =>
    simp only [usedBits, hn] at h
    have hidx : idxField w = idxField w' := extractLsb'_eq_of_mask h rfl
    rw [hidx, decodeLevel_congr (extractLsb'_eq_of_mask h rfl)]
  case h_5 hn =>
    simp only [usedBits, hn] at h
    rw [decodeProtoSel_congr (extractLsb'_eq_of_mask h rfl)]
  case h_6 hn =>
    simp only [usedBits, hn] at h
    rw [decodeUnit_congr (extractLsb'_eq_of_mask h rfl)]
  case h_7 hn =>
    simp only [usedBits, hn] at h
    have hdata : dataField w = dataField w' := extractLsb'_eq_of_mask h rfl
    rw [hdata, decodeUnit_congr (extractLsb'_eq_of_mask h rfl)]
  case h_8 hn =>
    simp only [usedBits, hn] at h
    rw [decodeUnit_congr (extractLsb'_eq_of_mask h rfl)]
  case h_9 hn =>
    simp only [usedBits, hn] at h
    have hidx : idxField w = idxField w' := extractLsb'_eq_of_mask h rfl
    rw [hidx]
  case h_10 hn =>
    simp only [usedBits, hn] at h
    have hmode : w.extractLsb' 24 2 = w'.extractLsb' 24 2 := extractLsb'_eq_of_mask h (by split <;> rfl)
    refine congrArg Instr.rdflt (decodeQuery_congr hmode fun hch => ?_)
    rw [if_pos hch] at h
    exact extractLsb'_eq_of_mask h rfl
  all_goals rfl
end

/-- Settles O3: the two words decode to one transaction. -/
theorem unusedBitsHaveNoEffect : Obligations.UnusedBitsHaveNoEffect := by
  intro w w' s h
  rw [decode_eq_of_usedBits h]

end Sys2Proof.Machine

/-! CKI and CKF: one equation for each unit (40_checksum.md rules R116, R117). -/

namespace Sys2Proof.Machine

/-- The two bits of `SUB` a checksum transaction decodes are the code of its unit (30_encoding.md rule R100). -/
theorem decodeUnit_of_code {w : Word} {u : CkUnit} (h : w.extractLsb' 24 2 = u.code.setWidth 2) :
    decodeUnit (subField w) = u := by
  cases u <;> simp [decodeUnit, subField_mod_four, h, CkUnit.code]

section
variable {s : State} (hp : s.port = .command)
include hp

theorem exec_cki_xor : exec (.cki .xor) s = .next ({ s with accXor := 0x00 }.respond false 0) :=
  onCommandPort_command hp

theorem exec_cki_sub16 : exec (.cki .sub16) s = .next ({ s with accSub := 0xFFFF }.respond false 0) :=
  onCommandPort_command hp

theorem exec_cki_crc8 : exec (.cki .crc8) s = .next ({ s with accCrc := 0x00 }.respond false 0) :=
  onCommandPort_command hp

theorem exec_ckf_xor (b : Byte) :
    exec (.ckf .xor b) s = .next ({ s with accXor := xorStep s.accXor b }.respond false 0) :=
  onCommandPort_command hp

theorem exec_ckf_sub16 (b : Byte) :
    exec (.ckf .sub16 b) s = .next ({ s with accSub := subStep s.accSub b }.respond false 0) :=
  onCommandPort_command hp

theorem exec_ckf_crc8 (b : Byte) :
    exec (.ckf .crc8 b) s = .next ({ s with accCrc := crcStep s.accCrc b }.respond false 0) :=
  onCommandPort_command hp
end

/-- Settles O21: the word decodes to CKI of the unit whose code it holds, and each unit has its equation; code 3 is a reserved
sub-value, which O11 answers. -/
theorem ckiInitialisesOneUnit : Obligations.CkiInitialisesOneUnit := by
  intro s w hport hop
  refine ⟨fun hunit => ?_, fun hunit => ?_, fun hunit => ?_, fun hunit => ?_⟩
  · rw [decode_cki hop, decodeUnit_of_code (u := .xor) hunit]
    exact exec_cki_xor hport
  · rw [decode_cki hop, decodeUnit_of_code (u := .sub16) hunit]
    exact exec_cki_sub16 hport
  · rw [decode_cki hop, decodeUnit_of_code (u := .crc8) hunit]
    exact exec_cki_crc8 hport
  · exact reservedSubValuesAnswerAnError s w hport (.inr (.inl ⟨.inl hop, hunit⟩))

/-- Settles O22: the word decodes to CKF of the unit whose code it holds and of its `DATA`, and each unit has its equation; code
3 is a reserved sub-value, which O11 answers. -/
theorem ckfFeedsOneUnit : Obligations.CkfFeedsOneUnit := by
  intro s w hport hop
  refine ⟨fun hunit => ?_, fun hunit => ?_, fun hunit => ?_, fun hunit => ?_⟩
  · rw [decode_ckf hop, decodeUnit_of_code (u := .xor) hunit]
    exact exec_ckf_xor hport (dataField w)
  · rw [decode_ckf hop, decodeUnit_of_code (u := .sub16) hunit]
    exact exec_ckf_sub16 hport (dataField w)
  · rw [decode_ckf hop, decodeUnit_of_code (u := .crc8) hunit]
    exact exec_ckf_crc8 hport (dataField w)
  · exact reservedSubValuesAnswerAnError s w hport (.inr (.inl ⟨.inr (.inl hop), hunit⟩))

end Sys2Proof.Machine

/-! RXB under the byte protocols (42_byte_decoders.md sections 2, 3 and 5): an equation for each state of the frame-state
machine, and the watchdog before it. -/

namespace Sys2Proof.Machine

/-- Every byte protocol has a frame timeout. -/
theorem exists_frameTimeout {s : State} (h : isByteProto s.proto = true) : ∃ ft, frameTimeout s.cfg s.proto = some ft := by
  rcases byteProto_cases h with h | h | h <;> rw [h] <;> exact ⟨_, rfl⟩

section
variable {s : State} {b : Byte} {now : Word} {ft : Nat}

/-! The byte each state examines (rule R151). -/

theorem examineByte_idle (h : s.fsm = .idle) : examineByte b now s = .next (idleByte b now s) := by
  simp [examineByte, h]

theorem examineByte_lengthByte (h : s.fsm = .haveSync) (hproto : s.proto = .crsf) :
    examineByte b now s = .next (lengthByte b now s) := by simp [examineByte, h, hproto]

theorem examineByte_headerByte2 (h : s.fsm = .haveSync) (hproto : s.proto ≠ .crsf) :
    examineByte b now s = .next (headerByte2 b now s) := by simp [examineByte, h, hproto]

theorem examineByte_collecting (h : s.fsm = .collecting) : examineByte b now s = collectByte b now s := by
  simp [examineByte, h]

theorem exec_rxb_watched (hp : s.port = .command) (hb : isByteProto s.proto = true) :
    exec (.rxb b) s = examineByte b s.nowMs (frameWatchdog s.nowMs (s.respond false 0)) :=
  (exec_rxb b hp).trans (if_pos hb)

theorem exec_upd_watched (hp : s.port = .command) (hb : isByteProto s.proto = true) :
    exec .upd s = .next (linkWatchdog s.nowMs (frameWatchdog s.nowMs (s.respond false 0))) := by
  rw [exec_upd hp, updateTick_byte (s := s.respond false 0) hb]

/-- `Idle` has no timeout: the byte is examined at once. -/
theorem exec_rxb_idle (hp : s.port = .command) (hb : isByteProto s.proto = true) (hf : s.fsm = .idle) :
    exec (.rxb b) s = .next (idleByte b s.nowMs (s.respond false 0)) := by
  obtain ⟨ft, hft⟩ := exists_frameTimeout hb
  rw [exec_rxb_in_time hp hft (.inl hf), examineByte_idle (s := s.respond false 0) hf]

/-- The `Idle` byte of a state forced to `Idle` (rule R157). -/
theorem exec_rxb_forcedIdle (hp : s.port = .command) (hb : isByteProto s.proto = true) (c : Status) :
    exec (.rxb b) (s.withStatus c).toIdle = .next (idleByte b s.nowMs ((s.respond false 0).withStatus c).toIdle) :=
  exec_rxb_idle (s := (s.withStatus c).toIdle) hp hb rfl

/-! The watchdogs (rules R152, R172). -/

/-- Past the frame timeout the watchdog leaves what it leaves of the state already forced to `Idle`. -/
theorem frameWatchdog_eq_on_forcedIdle (h : frameTimeout s.cfg s.proto = some ft) (h1 : s.fsm ≠ .idle)
    (h2 : ft < (now - s.tFrame).toNat) : frameWatchdog now s = frameWatchdog now (s.toIdle.withStatus .timeout) := by
  rw [frameWatchdog_fires h h1 h2, frameWatchdog_idle (s := s.toIdle.withStatus .timeout) rfl]

theorem linkWatchdog_frame (now : Word) (s : State) :
    (linkWatchdog now s).fsm = s.fsm ∧ (linkWatchdog now s).idx = s.idx ∧
      (linkWatchdog now s).lastStatus = s.lastStatus := by
  rw [linkWatchdog_eq]
  split <;> exact ⟨rfl, rfl, rfl⟩

/-! The `Idle` byte under a legal configuration (rules R153, R154). -/

/-- A byte that is not the sync value is discarded. -/
theorem idleByte_discards (hl : configLegal s.cfg = true)
    (h : s.proto = .crsf ∧ b ≠ 0xC8 ∨ s.proto = .sbus ∧ b ≠ 0x0F ∨ s.proto = .ibus ∧ b ≠ 0x20) :
    idleByte b now s = s := by
  rcases h with ⟨hproto, hb⟩ | ⟨hproto, hb⟩ | ⟨hproto, hb⟩
  · rw [idleByte_crsf hproto, fixed_of_configLegal hl]
    exact if_neg hb
  · rw [idleByte_sbus hproto, fixed_of_configLegal hl]
    exact if_neg hb
  · rw [idleByte_ibus hproto, fixed_of_configLegal hl]
    exact if_neg hb

/-- The sync value starts a frame; the protocol decides the next state and the length. -/
theorem idleByte_starts (hl : configLegal s.cfg = true)
    (h : s.proto = .crsf ∧ b = 0xC8 ∨ s.proto = .sbus ∧ b = 0x0F ∨ s.proto = .ibus ∧ b = 0x20) :
    ∃ f n, idleByte b now s = { s.startFrame b now with fsm := f, flen := n } ∧
      (s.proto = .crsf → f = .haveSync ∧ n = s.flen) ∧ (s.proto = .sbus → f = .collecting ∧ n = 25) ∧
      (s.proto = .ibus → f = .haveSync ∧ n = 32) := by
  rcases h with ⟨hproto, hb⟩ | ⟨hproto, hb⟩ | ⟨hproto, hb⟩
  · refine ⟨.haveSync, s.flen, ?_, by simp [hproto]⟩
    rw [idleByte_crsf hproto, fixed_of_configLegal hl]
    exact if_pos hb
  · refine ⟨.collecting, 25, ?_, by simp [hproto]⟩
    rw [idleByte_sbus hproto, fixed_of_configLegal hl]
    exact if_pos hb
  · refine ⟨.haveSync, 32, ?_, by simp [hproto]⟩
    rw [idleByte_ibus hproto, fixed_of_configLegal hl]
    exact if_pos hb

/-! The second byte under a legal configuration (rules R155 to R157). -/

theorem lengthByte_starts (hl : configLegal s.cfg = true) (h3 : 3 ≤ b.toNat) (h62 : b.toNat ≤ 62) :
    lengthByte b now s = { s with buf := s.buf.write 1 b, idx := 2, flen := b.toNat + 2, fsm := .collecting } := by
  unfold lengthByte
  rw [fixed_of_configLegal hl]
  exact if_pos ⟨h3, h62⟩

theorem lengthByte_reexamines (hl : configLegal s.cfg = true) (h : b.toNat < 3 ∨ 62 < b.toNat) :
    lengthByte b now s = idleByte b now (s.withStatus .badLen).toIdle := by
  unfold lengthByte
  rw [fixed_of_configLegal hl]
  refine if_neg fun hin => ?_
  obtain ⟨h3, h62⟩ : 3 ≤ b.toNat ∧ b.toNat ≤ 62 := hin
  omega

theorem headerByte2_starts (hl : configLegal s.cfg = true) (h : b = 0x40) :
    headerByte2 b now s = { s with buf := s.buf.write 1 b, idx := 2, fsm := .collecting } := by
  unfold headerByte2
  rw [fixed_of_configLegal hl]
  exact if_pos h

theorem headerByte2_reexamines (hl : configLegal s.cfg = true) (h : b ≠ 0x40) :
    headerByte2 b now s = idleByte b now (s.withStatus .badHdr).toIdle := by
  unfold headerByte2
  rw [fixed_of_configLegal hl]
  exact if_neg h
end

/-- Settles O32: a pulse protocol receives no bytes. -/
theorem rxbIgnoredUnderPulseProtocols : Obligations.RxbIgnoredUnderPulseProtocols := by
  intro s b hport hproto
  have hpulse : isByteProto (s.respond false 0).proto = false := by
    rcases hproto with h | h <;> rw [State.respond_proto, h] <;> rfl
  rw [exec_rxb b hport, receiveByte_pulse b s.nowMs hpulse]
  rfl

/-- Settles O33: both transactions reach the decoder through the watchdog alone, and past the timeout it cannot tell the state
from the one forced to `Idle`; the link watchdog of UPD leaves the frame alone. -/
theorem midFrameWatchdogForcesIdle : Obligations.MidFrameWatchdogForcesIdle := by
  intro s b ft hport hft
  have hbyte : isByteProto s.proto = true := isByteProto_of_frameTimeout hft
  constructor
  · intro hfsm hlate
    have hforced := frameWatchdog_eq_on_forcedIdle (s := s.respond false 0) hft hfsm hlate
    constructor
    · calc exec (.rxb b) s
        _ = examineByte b s.nowMs (frameWatchdog s.nowMs (s.respond false 0)) := exec_rxb_watched hport hbyte
        _ = examineByte b s.nowMs (frameWatchdog s.nowMs ((s.respond false 0).toIdle.withStatus .timeout)) := by rw [hforced]
        _ = exec (.rxb b) (s.toIdle.withStatus .timeout) :=
          (exec_rxb_watched (s := s.toIdle.withStatus .timeout) hport hbyte).symm
    · calc exec .upd s
        _ = .next (linkWatchdog s.nowMs (frameWatchdog s.nowMs (s.respond false 0))) := exec_upd_watched hport hbyte
        _ = .next (linkWatchdog s.nowMs (frameWatchdog s.nowMs ((s.respond false 0).toIdle.withStatus .timeout))) := by
          rw [hforced]
        _ = exec .upd (s.toIdle.withStatus .timeout) :=
          (exec_upd_watched (s := s.toIdle.withStatus .timeout) hport hbyte).symm
  · intro hintime
    refine ⟨exec_rxb_in_time hport hft hintime, _, exec_upd_watched hport hbyte, ?_⟩
    rw [frameWatchdog_holds (s := s.respond false 0) hft hintime]
    exact linkWatchdog_frame s.nowMs (s.respond false 0)

/-- Settles O34, by the rule for a byte that is not the sync value. -/
theorem idleDiscardsOtherBytes : Obligations.IdleDiscardsOtherBytes := by
  intro s b hl hport hfsm hother
  have hbyte : isByteProto s.proto = true := by
    rcases hother with ⟨h, -⟩ | ⟨h, -⟩ | ⟨h, -⟩ <;> rw [h] <;> rfl
  rw [exec_rxb_idle hport hbyte hfsm, idleByte_discards (s := s.respond false 0) hl hother]
  rfl

/-- Settles O35, by the rule for the sync value. -/
theorem syncByteStartsAFrame : Obligations.SyncByteStartsAFrame := by
  intro s b hl hport hfsm hsync
  have hbyte : isByteProto s.proto = true := by
    rcases hsync with ⟨h, -⟩ | ⟨h, -⟩ | ⟨h, -⟩ <;> rw [h] <;> rfl
  obtain ⟨f, n, hstart, hnext⟩ := idleByte_starts (s := s.respond false 0) (now := s.nowMs) hl hsync
  refine ⟨_, exec_rxb_idle hport hbyte hfsm, ?_⟩
  rw [hstart]
  exact ⟨rfl, fun a => Memory.byteAt_write s.buf 0 a b, hnext⟩

/-- Settles O36: within the timeout the byte is the length byte, and a bad one is an `Idle` byte of the state forced to
`Idle`. -/
theorem crsfLengthByte : Obligations.CrsfLengthByte := by
  intro s b hl hport hproto hfsm htime
  have hft : frameTimeout s.cfg s.proto = some s.cfg.ftCrsf := by rw [hproto]; rfl
  have hexec : exec (.rxb b) s = .next (lengthByte b s.nowMs (s.respond false 0)) := by
    rw [exec_rxb_in_time hport hft (.inr htime), examineByte_lengthByte (s := s.respond false 0) hfsm hproto]
  constructor
  · intro h3 h62
    refine ⟨_, hexec, ?_⟩
    rw [lengthByte_starts (s := s.respond false 0) hl h3 h62]
    exact ⟨rfl, fun a => Memory.byteAt_write s.buf 1 a b⟩
  · intro hbad
    rw [hexec, lengthByte_reexamines (s := s.respond false 0) hl hbad]
    exact (exec_rxb_forcedIdle hport (isByteProto_of_frameTimeout hft) .badLen).symm

/-- Settles O37: within the timeout the byte is the second header byte, and a bad one is an `Idle` byte of the state forced to
`Idle`. -/
theorem ibusSecondHeaderByte : Obligations.IbusSecondHeaderByte := by
  intro s b hl hport hproto hfsm htime
  have hft : frameTimeout s.cfg s.proto = some s.cfg.ftIbus := by rw [hproto]; rfl
  have hexec : exec (.rxb b) s = .next (headerByte2 b s.nowMs (s.respond false 0)) := by
    rw [exec_rxb_in_time hport hft (.inr htime),
      examineByte_headerByte2 (s := s.respond false 0) hfsm (by simp [hproto])]
  constructor
  · intro hhdr
    refine ⟨_, hexec, ?_⟩
    rw [headerByte2_starts (s := s.respond false 0) hl hhdr]
    exact ⟨rfl, fun a => Memory.byteAt_write s.buf 1 a b⟩
  · intro hbad
    rw [hexec, headerByte2_reexamines (s := s.respond false 0) hl hbad]
    exact (exec_rxb_forcedIdle hport (isByteProto_of_frameTimeout hft) .badHdr).symm

end Sys2Proof.Machine

/-! Frame completion (42_byte_decoders.md section 3): the completing byte, and what each protocol's check decides. -/

namespace Sys2Proof.Machine

section
variable {s t : State} {b : Byte} {now : Word}

/-! What a completion does under every protocol (rule R160). -/

theorem complete_crsf (hl : configLegal s.cfg = true) (h : s.proto = .crsf) (hb : (s.buf.byteAt 1).toNat ≤ 62) :
    complete now s = .next (completeCrsf now s).toIdle := by
  unfold complete
  rw [h, fixed_of_configLegal hl]
  exact if_pos (Nat.succ_lt_succ (Nat.lt_succ_of_le hb))

theorem complete_sbus (h : s.proto = .sbus) : complete now s = .next (completeSbus now s).toIdle := by
  simp [complete, h]

theorem complete_ibus (h : s.proto = .ibus) : complete now s = .next (completeIbus now s).toIdle := by
  simp [complete, h]

/-- A completion ends in `Idle` and writes at most the channels, the link fields and the status. -/
theorem complete_frame (h : complete now s = .next t) :
    t = { s with fsm := .idle, idx := 0, ch := t.ch, inputLost := t.inputLost, tValid := t.tValid,
                 lastStatus := t.lastStatus } := by
  rcases complete_cases h with ⟨-, -, rfl⟩ | ⟨-, rfl⟩ | ⟨-, rfl⟩ | ⟨-, rfl⟩
  · rcases completeCrsf_cases now s with hc | hc | hc <;> rw [hc] <;> rfl
  · rcases completeSbus_cases now s with hc | hc | hc <;> rw [hc] <;> rfl
  · rcases completeIbus_cases now s with hc | hc <;> rw [hc] <;> rfl
  · rfl

/-- The byte that completes a frame: it is appended, and the rest is the completion's (rules R158, R159). -/
theorem exec_rxb_completes {ft : Nat} (hl : configLegal s.cfg = true) (hp : s.port = .command) (hf : s.fsm = .collecting)
    (hft : frameTimeout s.cfg s.proto = some ft) (htime : (s.nowMs - s.tFrame).toNat ≤ ft) (hi : s.idx < 64)
    (hlen : s.idx + 1 = s.flen) (h : complete s.nowMs ((s.respond false 0).appendByte b) = .next t) :
    exec (.rxb b) s = .next t ∧
      t = { s with buf := t.buf, fsm := .idle, idx := 0, ch := t.ch, inputLost := t.inputLost, tValid := t.tValid,
                   lastStatus := t.lastStatus, responses := s.responses ++ [⟨false, 0⟩] } ∧
      t.buf = s.buf.write s.idx b := by
  have hframe := complete_frame h
  have hbuf : t.buf = s.buf.write s.idx b := congrArg State.buf hframe
  have hroom : s.idx < s.cfg.fixed.frameBuf := by rw [fixed_of_configLegal hl]; exact hi
  refine ⟨?_, ?_, hbuf⟩
  · rw [exec_rxb_in_time hp hft (.inr htime), examineByte_collecting (s := s.respond false 0) hf,
      collectByte_complete (s := s.respond false 0) hroom hlen, h]
  · rw [hbuf]
    exact hframe

/-! The decision of each protocol under a legal configuration, in the numbers of its frame (rules R161 to R168). -/

theorem crsfCheckOf_eq (s : State) (l : Nat) : crsfCheckOf s l = crsfCheckByte s.cfg (s.buf.slice 2 (l - 1)) := by
  unfold crsfCheckOf crsfCheckByte
  cases s.cfg.crsfCheck <;> rfl

theorem completeCrsf_eq (hl : configLegal s.cfg = true) (now : Word) :
    completeCrsf now s =
      if crsfCheckByte s.cfg (s.buf.slice 2 ((s.buf.byteAt 1).toNat - 1)) ≠ s.buf.byteAt ((s.buf.byteAt 1).toNat + 1)
      then s.withStatus .badCk
      else if s.buf.byteAt 2 = 0x16 ∧ s.buf.byteAt 1 = 0x18 then s.accept (unpackedChannels s .crsf 3) now
      else s.withStatus .okIgn := by
  have hlen : (s.buf.byteAt 1).toNat = 24 ↔ s.buf.byteAt 1 = 0x18 := BitVec.toNat_inj (y := 0x18)
  unfold completeCrsf
  dsimp only
  rw [crsfCheckOf_eq, fixed_of_configLegal hl]
  exact if_congr Iff.rfl rfl (if_congr (and_congr_right' hlen) rfl rfl)

/-- The failsafe mask selects bit 3 of the flags byte. -/
theorem and_failsafeMask_ne_zero_iff (b : Byte) : b &&& 0x08 ≠ 0 ↔ b.getLsbD 3 = true := by
  rw [show (0x08 : Byte) = BitVec.twoPow 8 3 from rfl, BitVec.and_twoPow]
  cases b.getLsbD 3 <;> decide

theorem completeSbus_eq (hl : configLegal s.cfg = true) (now : Word) :
    completeSbus now s =
      if s.buf.byteAt 24 ≠ 0x00 then s.withStatus .badFoot
      else if (s.buf.byteAt 23).getLsbD 3 = true then s.loseLink.withStatus .failsafe
      else s.accept (unpackedChannels s .sbus 1) now := by
  unfold completeSbus
  rw [fixed_of_configLegal hl]
  exact if_congr Iff.rfl rfl (if_congr (and_failsafeMask_ne_zero_iff _) rfl rfl)

/-- The 16-bit little-endian field (20_memory.md rule R62) as a number. -/
theorem toNat_append_bytes (hi lo : Byte) : (hi ++ lo : Half).toNat = lo.toNat + 256 * hi.toNat := by
  rw [BitVec.toNat_append, ← Nat.shiftLeft_add_eq_or_of_lt lo.isLt, Nat.shiftLeft_eq]
  omega

theorem completeIbus_eq (now : Word) (s : State) :
    completeIbus now s =
      if (ibusChecksum16 ((List.range 30).map s.buf.byteAt)).toNat ≠
        (s.buf.byteAt 30).toNat + 256 * (s.buf.byteAt 31).toNat
      then s.withStatus .badCk else s.accept (ibusChannels s) now := by
  have hslice : s.buf.slice 0 30 = (List.range 30).map s.buf.byteAt := by simp [Memory.slice]
  unfold completeIbus
  dsimp only
  rw [hslice, ← toNat_append_bytes]
  exact if_congr (not_congr BitVec.toNat_inj.symm) rfl rfl

/-! The channels an accepted frame gives. -/

theorem entry_unpackedChannels (s : State) (p : Proto) (off : Nat) {i : Nat} (h : i < 16) (d : Half) :
    entry (unpackedChannels s p off) d i = normalize s.cfg p (unpack s.buf.byteAt off i) := entry_ofFn d i _ h

theorem entry_ibusChannels_of_lt (hl : configLegal s.cfg = true) {i : Nat} (h : i < 14) (d : Half) :
    entry (ibusChannels s) d i =
      normalize s.cfg .ibus ((s.buf.byteAt (2 + 2 * i)).toNat + 256 * (s.buf.byteAt (3 + 2 * i)).toNat) := by
  rw [← ibusRaw_eq]
  refine (entry_ofFn d i _ (Nat.lt_of_lt_of_le h (by decide))).trans (if_pos ?_)
  rw [fixed_of_configLegal hl]
  exact h

theorem entry_ibusChannels_of_ge (hl : configLegal s.cfg = true) {i : Nat} (h14 : 14 ≤ i) (h16 : i < 16) (d : Half) :
    entry (ibusChannels s) d i = 0 := by
  refine (entry_ofFn d i _ h16).trans (if_neg ?_)
  rw [fixed_of_configLegal hl]
  exact Nat.not_lt.mpr h14

/-- The buffer with the byte appended, as the statements name it. -/
theorem byteAt_appendByte_eq {B : Nat → Byte} (hB : ∀ a, B a = if a = s.idx then b else s.buf.byteAt a) :
    B = ((s.respond false 0).appendByte b).buf.byteAt :=
  funext fun a => (hB a).trans (Memory.byteAt_write s.buf s.idx a b).symm
end

/-- Settles O39, by the decision of a CRSF frame, one branch a clause. -/
theorem crsfFrameCompletion : Obligations.CrsfFrameCompletion := by
  intro s b B hl hport hproto hfsm htime hroom hlast hB hlen
  have hft : frameTimeout s.cfg s.proto = some s.cfg.ftCrsf := by rw [hproto]; rfl
  obtain rfl := byteAt_appendByte_eq hB
  obtain ⟨hexec, hframe, hbuf⟩ := exec_rxb_completes hl hport hfsm hft htime hroom hlast (complete_crsf hl hproto hlen)
  have hdecides := completeCrsf_eq (s := (s.respond false 0).appendByte b) hl s.nowMs
  refine ⟨_, hexec, hframe, fun a => by rw [hbuf]; rfl, fun hck => ?_, fun hck => ⟨fun htype => ?_, fun htype => ?_⟩⟩
  · rw [hdecides.trans (if_pos hck)]
    exact ⟨rfl, rfl, rfl, rfl⟩
  · rw [hdecides.trans ((if_neg (not_not_intro hck)).trans (if_neg htype))]
    exact ⟨rfl, rfl, rfl, rfl⟩
  · rw [hdecides.trans ((if_neg (not_not_intro hck)).trans (if_pos htype))]
    exact ⟨rfl, rfl, rfl, fun i hi => entry_unpackedChannels _ .crsf 3 hi 0⟩

/-- Settles O40, by the decision of an SBUS frame, one branch a clause. -/
theorem sbusFrameCompletion : Obligations.SbusFrameCompletion := by
  intro s b B hl hport hproto hfsm htime hroom hlast hB
  have hft : frameTimeout s.cfg s.proto = some s.cfg.ftSbus := by rw [hproto]; rfl
  obtain rfl := byteAt_appendByte_eq hB
  obtain ⟨hexec, hframe, hbuf⟩ := exec_rxb_completes hl hport hfsm hft htime hroom hlast (complete_sbus hproto)
  have hdecides := completeSbus_eq (s := (s.respond false 0).appendByte b) hl s.nowMs
  refine ⟨_, hexec, hframe, fun a => by rw [hbuf]; rfl, fun hfoot => ?_, fun hfoot hsafe => ?_, fun hfoot hsafe => ?_⟩
  · rw [hdecides.trans (if_pos hfoot)]
    exact ⟨rfl, rfl, rfl, rfl⟩
  · rw [hdecides.trans ((if_neg (not_not_intro hfoot)).trans (if_pos hsafe))]
    exact ⟨rfl, rfl, rfl, rfl⟩
  · rw [hdecides.trans ((if_neg (not_not_intro hfoot)).trans (if_neg (Bool.eq_false_iff.mp hsafe)))]
    exact ⟨rfl, rfl, rfl, fun i hi => entry_unpackedChannels _ .sbus 1 hi 0⟩

/-- Settles O41, by the decision of an IBUS frame, one branch a clause. -/
theorem ibusFrameCompletion : Obligations.IbusFrameCompletion := by
  intro s b B hl hport hproto hfsm htime hroom hlast hB
  have hft : frameTimeout s.cfg s.proto = some s.cfg.ftIbus := by rw [hproto]; rfl
  obtain rfl := byteAt_appendByte_eq hB
  obtain ⟨hexec, hframe, hbuf⟩ := exec_rxb_completes hl hport hfsm hft htime hroom hlast (complete_ibus hproto)
  have hdecides := completeIbus_eq s.nowMs ((s.respond false 0).appendByte b)
  refine ⟨_, hexec, hframe, fun a => by rw [hbuf]; rfl, fun hck => ?_, fun hck => ?_⟩
  · rw [hdecides.trans (if_pos hck)]
    exact ⟨rfl, rfl, rfl, rfl⟩
  · rw [hdecides.trans (if_neg (not_not_intro hck))]
    have hlegal : configLegal ((s.respond false 0).appendByte b).cfg = true := hl
    exact ⟨rfl, rfl, rfl, fun i hi => entry_ibusChannels_of_lt hlegal hi 0,
      entry_ibusChannels_of_ge hlegal (i := 14) (by decide) (by decide) 1,
      entry_ibusChannels_of_ge hlegal (i := 15) (by decide) (by decide) 1⟩

end Sys2Proof.Machine

/-! EDGE (43_pulse_decoders.md sections 2 and 3): an equation for each edge of the two pulse protocols. -/

namespace Sys2Proof.Machine

theorem entry_setEntry_eq_ite {α : Type} (v : Vector α chEntries) (d x : α) {i : Nat} (h : i < chEntries) (k : Nat) :
    entry (setEntry v i x) d k = if k = i then x else entry v d k := by
  simp [entry_setEntry, h, eq_comm]

/-- The store of a measured width: a width of 0 leaves the slot unchanged (rules R203, R208). -/
theorem toNat_entry_store_width (v : Vector Half chEntries) (x : Half) {i w : Nat} (h : i < chEntries) (k : Nat) :
    (entry (if w ≠ 0 then setEntry v i x else v) 0 k).toNat =
      if k = i ∧ w ≠ 0 then x.toNat else (entry v 0 k).toNat := by
  by_cases hw : w = 0
  · simp [hw]
  · by_cases hk : k = i <;> simp [hw, hk, entry_setEntry_eq_ite, h]

section
variable {s : State} {ch : Nat} {ts : Word}

/-! PWM (rules R202 to R204). -/

theorem pwmEdge_of_ge (lvl : Level) (h : s.cfg.nPwm ≤ ch) : pwmEdge ch lvl ts s = s := if_neg (Nat.not_lt.mpr h)

theorem pwmEdge_rising (h : ch < s.cfg.nPwm) : pwmEdge ch .rising ts s = pwmRise ch ts s := if_pos h

theorem pwmEdge_falling (h : ch < s.cfg.nPwm) : pwmEdge ch .falling ts s = pwmFall ch ts s := if_pos h

theorem pwmFall_without_rise (h : entry s.riseValid false ch = false) : pwmFall ch ts s = s := by simp [pwmFall, h]

theorem pwmFall_with_rise (h : entry s.riseValid false ch = true) :
    pwmFall ch ts s =
      { s with riseValid := setEntry s.riseValid ch false
               slot := if elapsed ts (entry s.riseTs 0 ch) ≠ 0
                 then setEntry s.slot ch (saturateWidth (elapsed ts (entry s.riseTs 0 ch))) else s.slot } := by
  unfold pwmFall
  rw [if_pos h]
  dsimp only
  split <;> rfl

theorem toNat_saturateWidth (w : Nat) : (saturateWidth w).toNat = min w 65535 := by
  simp only [saturateWidth, BitVec.toNat_ofNat]
  omega

/-- A falling edge writes the fields of its channel only, with or without a rise pending. -/
theorem pwmFall_frame (ch : Nat) (ts : Word) (s : State) :
    pwmFall ch ts s = { s with riseValid := (pwmFall ch ts s).riseValid, slot := (pwmFall ch ts s).slot } := by
  cases hv : entry s.riseValid false ch with
  | true => rw [pwmFall_with_rise hv]
  | false => rw [pwmFall_without_rise hv]

theorem entry_riseValid_pwmFall (h : ch < chEntries) (k : Nat) :
    entry (pwmFall ch ts s).riseValid false k = if k = ch then false else entry s.riseValid false k := by
  cases hv : entry s.riseValid false ch with
  | true =>
    rw [pwmFall_with_rise hv]
    exact entry_setEntry_eq_ite _ _ _ h k
  | false =>
    rw [pwmFall_without_rise hv]
    split
    · next hk => rw [hk, hv]
    · rfl

theorem entry_slot_pwmFall (h : ch < chEntries) (k : Nat) :
    (entry (pwmFall ch ts s).slot 0 k).toNat =
      if k = ch ∧ entry s.riseValid false ch = true ∧ elapsed ts (entry s.riseTs 0 ch) ≠ 0
      then min (elapsed ts (entry s.riseTs 0 ch)) 65535 else (entry s.slot 0 k).toNat := by
  cases hv : entry s.riseValid false ch with
  | true =>
    rw [pwmFall_with_rise hv, toNat_entry_store_width _ _ h, toNat_saturateWidth]
    exact if_congr (by simp) rfl rfl
  | false => simp [pwmFall_without_rise hv]

/-! PPM (rules R205 to R209). -/

theorem ppmEdge_ignored {lvl : Level} (h : ch ≠ 0 ∨ lvl = .falling) : ppmEdge ch lvl ts s = s := by
  cases lvl with
  | rising => exact if_neg (h.resolve_right (by decide))
  | falling => rfl

theorem ppmRise_first (h : s.ppmHavePrev = false) : ppmRise ts s = { s with ppmPrev := ts, ppmHavePrev := true } := by
  simp [ppmRise, h]

theorem ppmRise_sync (h : s.ppmHavePrev = true) (hd : s.cfg.ppmSyncUs ≤ elapsed ts s.ppmPrev) :
    ppmRise ts s = { ppmSync s with ppmPrev := ts, ppmHavePrev := true } := by
  simp [ppmRise, h, hd]

theorem ppmRise_interval (h : s.ppmHavePrev = true) (hd : elapsed ts s.ppmPrev < s.cfg.ppmSyncUs) :
    ppmRise ts s = { ppmInterval (elapsed ts s.ppmPrev) s with ppmPrev := ts, ppmHavePrev := true } := by
  simp [ppmRise, h, Nat.not_le.mpr hd]

/-- The fields an accepted edge writes; the time of the edge is always kept. -/
theorem ppmRise_frame (ts : Word) (s : State) :
    ppmRise ts s =
      { s with ppmPrev := ts, ppmHavePrev := true, ppmSynced := (ppmRise ts s).ppmSynced, ppmIdx := (ppmRise ts s).ppmIdx
               ppmFrame := (ppmRise ts s).ppmFrame, lastStatus := (ppmRise ts s).lastStatus
               slot := (ppmRise ts s).slot } :=
  ppmEdge_frame 0 .rising ts s

/-! The sync gap (rule R207). -/

theorem ppmSync_complete (h : s.ppmSynced = true) (hi : s.ppmIdx = s.cfg.nPpm) :
    ppmSync s = { s with ppmFrame := true, lastStatus := .okCh, ppmSynced := true, ppmIdx := 0 } := by
  simp [ppmSync, h, hi]

theorem ppmSync_short (h : s.ppmSynced = true) (hi : s.ppmIdx ≠ s.cfg.nPpm) :
    ppmSync s = { s with lastStatus := .badLen, ppmSynced := true, ppmIdx := 0 } := by
  simp [ppmSync, h, hi, State.withStatus]

theorem ppmSync_first (h : s.ppmSynced = false) : ppmSync s = { s with ppmSynced := true, ppmIdx := 0 } := by
  simp [ppmSync, h]

/-- Whatever the gap ends, the next run begins at slot 0. -/
theorem ppmSync_starts_a_run (s : State) :
    (ppmSync s).ppmSynced = true ∧ (ppmSync s).ppmIdx = 0 ∧ (ppmSync s).slot = s.slot := by
  refine ⟨rfl, rfl, ?_⟩
  unfold ppmSync State.withStatus
  dsimp only
  split
  · rfl
  · split <;> rfl

/-! The channel interval (rules R208, R209). -/

theorem ppmInterval_unsynced (d : Nat) (h : s.ppmSynced = false) : ppmInterval d s = s := by simp [ppmInterval, h]

theorem ppmInterval_fills (d : Nat) (h : s.ppmSynced = true) (hi : s.ppmIdx < s.cfg.nPpm) :
    ppmInterval d s =
      { s with slot := if d ≠ 0 then setEntry s.slot s.ppmIdx (BitVec.ofNat 16 d) else s.slot, ppmIdx := s.ppmIdx + 1 } := by
  unfold ppmInterval
  rw [if_pos h, if_pos hi]
  dsimp only
  split <;> rfl

theorem ppmInterval_overruns (d : Nat) (h : s.ppmSynced = true) (hi : s.ppmIdx = s.cfg.nPpm) :
    ppmInterval d s = { s with ppmSynced := false, lastStatus := .overflow } := by
  simp [ppmInterval, h, hi]

theorem ppmInterval_ppmFrame (d : Nat) (s : State) : (ppmInterval d s).ppmFrame = s.ppmFrame := by
  unfold ppmInterval
  dsimp only
  repeat' split
  all_goals rfl
end

/-- Settles O47: each of these edges meets a rule that answers the state as it stands. -/
theorem ignoredEdgesChangeNothing : Obligations.IgnoredEdgesChangeNothing := by
  intro s ch lvl hport hcase
  rw [exec_edge ch lvl hport]
  congr 1
  rcases hcase with ⟨hproto, hch⟩ | ⟨hproto, hignored⟩ | hbyte
  · rw [captureEdge_pwm _ _ _ hproto, pwmEdge_of_ge lvl hch]
  · rw [captureEdge_ppm _ _ _ hproto, ppmEdge_ignored hignored]
  · have hbyte : isByteProto s.proto = true := by rcases hbyte with h | h | h <;> rw [h] <;> rfl
    exact captureEdge_byte _ _ _ hbyte

/-- Settles O48: a rise writes its two entries, and what a fall writes depends on the rise pending and on the width. -/
theorem pwmEdgesMeasureThePulse : Obligations.PwmEdgesMeasureThePulse := by
  intro s ch w hport hproto hch hn hw
  subst hw
  have hlt : ch < chEntries := Nat.lt_of_lt_of_le hch hn
  constructor
  · refine ⟨pwmRise ch s.edgeTsUs s, ?_, rfl, fun k => ⟨?_, ?_⟩⟩
    · rw [exec_edge ch .rising hport, captureEdge_pwm _ _ _ hproto, pwmEdge_rising hch]
    · exact entry_setEntry_eq_ite s.riseTs 0 s.edgeTsUs hlt k
    · exact entry_setEntry_eq_ite s.riseValid false true hlt k
  · refine ⟨pwmFall ch s.edgeTsUs s, ?_, pwmFall_frame ch _ s, fun k => ⟨?_, ?_⟩⟩
    · rw [exec_edge ch .falling hport, captureEdge_pwm _ _ _ hproto, pwmEdge_falling hch]
    · exact entry_riseValid_pwmFall hlt k
    · exact entry_slot_pwmFall hlt k

/-- Settles O49: the first edge, the sync gap and the channel interval each have their equation, and so has each thing a gap or
an interval can end. -/
theorem ppmEdgesAssembleTheFrame : Obligations.PpmEdgesAssembleTheFrame := by
  intro s d hport hproto hn hsync hd
  subst hd
  refine ⟨ppmRise s.edgeTsUs s, ?_, ppmRise_frame _ s, fun hprev => ?_, fun hprev hgap => ?_, fun hprev hgap => ?_⟩
  · rw [exec_edge 0 .rising hport, captureEdge_ppm _ _ _ hproto]
    rfl
  · rw [ppmRise_first hprev]
    exact ⟨rfl, rfl, rfl, rfl, rfl⟩
  · rw [ppmRise_sync hprev hgap]
    obtain ⟨hsynced, hidx, hslot⟩ := ppmSync_starts_a_run s
    refine ⟨hsynced, hidx, hslot, fun hs hi => ?_, fun hs hi => ?_, fun hs => ?_⟩
    · rw [ppmSync_complete hs hi]
      exact ⟨rfl, rfl⟩
    · rw [ppmSync_short hs hi]
      exact ⟨rfl, rfl⟩
    · rw [ppmSync_first hs]
      exact ⟨rfl, rfl⟩
  · rw [ppmRise_interval hprev hgap]
    refine ⟨ppmInterval_ppmFrame _ s, fun hs => ?_, fun hs hi => ?_, fun hs hi => ?_⟩
    · rw [ppmInterval_unsynced _ hs]
      exact ⟨hs, rfl, rfl, rfl⟩
    · rw [ppmInterval_fills _ hs hi]
      have hfit : elapsed s.edgeTsUs s.ppmPrev < 2 ^ 16 := Nat.lt_of_lt_of_le hgap (Nat.le_succ_of_le hsync)
      refine ⟨hs, rfl, rfl, fun k => ?_⟩
      rw [toNat_entry_store_width _ _ (Nat.lt_of_lt_of_le hi hn), BitVec.toNat_ofNat, Nat.mod_eq_of_lt hfit]
      rfl
    · rw [ppmInterval_overruns _ hs hi]
      exact ⟨rfl, rfl, rfl, rfl⟩

end Sys2Proof.Machine

/-! UPD under the pulse protocols (43_pulse_decoders.md section 4): what each pass over the channels does to its channel, and
why the loop does no more. -/

namespace Sys2Proof.Machine

/-- What a pass of UPD over one channel reads and writes. -/
structure ChannelView where
  cfg       : Config
  inputLost : Bool
  slot      : Half
  ch        : Half
  tPulse    : Word
  chFault   : Bool

def State.channelView (s : State) (k : Nat) : ChannelView where
  cfg       := s.cfg
  inputLost := s.inputLost
  slot      := entry s.slot 0 k
  ch        := entry s.ch 0 k
  tPulse    := entry s.tPulse 0 k
  chFault   := entry s.chFault true k

/-- `PwmConsume` on one channel (rule R211). -/
def ChannelView.pwmConsume (now : Word) (c : ChannelView) : ChannelView :=
  let v := normalize c.cfg .pwm c.slot.toNat
  { c with
    slot := 0, ch := if c.slot ≠ 0 then v else c.ch
    tPulse := if v ≠ 0 then now else c.tPulse, chFault := if v ≠ 0 then false else c.chFault }

/-- `PwmTimeout` on one channel (rule R212). -/
def ChannelView.pwmTimeout (now : Word) (c : ChannelView) : ChannelView :=
  if c.cfg.ltPwm < (now - c.tPulse).toNat then { c with ch := 0, chFault := true } else c

theorem ChannelView.pwmTimeout_slot (now : Word) (c : ChannelView) : (c.pwmTimeout now).slot = c.slot := by
  unfold ChannelView.pwmTimeout
  split <;> rfl

theorem ChannelView.pwmTimeout_tPulse (now : Word) (c : ChannelView) : (c.pwmTimeout now).tPulse = c.tPulse := by
  unfold ChannelView.pwmTimeout
  split <;> rfl

/-- `PpmConsume` on one channel (rule R214). -/
def ChannelView.ppmConsume (c : ChannelView) : ChannelView :=
  { c with slot := 0, ch := if c.slot ≠ 0 ∧ c.inputLost = false then normalize c.cfg .ppm c.slot.toNat else c.ch }

/-- A loop whose pass over `j` does `f` to channel `j` and nothing to another does `f` to the channels below its bound. -/
theorem channelView_forChannels {body : Nat → State → State} {f : ChannelView → ChannelView} {n : Nat}
    (hself : ∀ j t, j < n → (body j t).channelView j = f (t.channelView j))
    (hother : ∀ j k t, k ≠ j → (body j t).channelView k = t.channelView k) (s : State) (k : Nat) :
    (forChannels n body s).channelView k = if k < n then f (s.channelView k) else s.channelView k := by
  induction n with
  | zero => rfl
  | succ n ih =>
    have ih := ih fun j t hj => hself j t (Nat.lt_succ_of_lt hj)
    by_cases hk : k = n
    · subst hk
      rw [if_neg (Nat.lt_irrefl k)] at ih
      rw [if_pos (Nat.lt_succ_self k), ← ih]
      exact hself k _ (Nat.lt_succ_self k)
    · have hlt : k < n + 1 ↔ k < n := by omega
      simp only [hlt, ← ih]
      exact hother n k _ hk

section
variable {j k : Nat} (now : Word) (s : State)

/-- An empty slot has no valid sample (41_unpack_normalize.md rule R135). -/
theorem normalize_zero (c : Config) (p : Proto) : normalize c p (0 : Half).toNat = 0 := rfl

/-! The pass over a PWM channel (rules R210 to R212). -/

theorem pwmConsume_empty (h : entry s.slot 0 k = 0) : pwmConsume now k s = s := if_neg (not_not_intro h)

theorem pwmConsume_invalid (h : entry s.slot 0 k ≠ 0) (hv : normalize s.cfg .pwm (entry s.slot 0 k).toNat = 0) :
    pwmConsume now k s = { s with slot := setEntry s.slot k 0, ch := setEntry s.ch k 0 } := by
  unfold pwmConsume
  rw [if_pos h, hv]
  exact if_neg (not_not_intro rfl)

theorem pwmConsume_valid (h : entry s.slot 0 k ≠ 0) (hv : normalize s.cfg .pwm (entry s.slot 0 k).toNat ≠ 0) :
    pwmConsume now k s =
      { s with
        slot := setEntry s.slot k 0, ch := setEntry s.ch k (normalize s.cfg .pwm (entry s.slot 0 k).toNat)
        tPulse := setEntry s.tPulse k now, chFault := setEntry s.chFault k false } :=
  (if_pos h).trans (if_pos hv)

theorem channelView_pwmConsume_self (h : k < chEntries) :
    (pwmConsume now k s).channelView k = (s.channelView k).pwmConsume now := by
  by_cases hslot : entry s.slot 0 k = 0
  · rw [pwmConsume_empty now s hslot]
    simp only [ChannelView.pwmConsume, State.channelView, hslot, normalize_zero, ne_eq, not_true_eq_false, if_false]
  · by_cases hv : normalize s.cfg .pwm (entry s.slot 0 k).toNat = 0
    · rw [pwmConsume_invalid now s hslot hv]
      simp only [ChannelView.pwmConsume, State.channelView, hslot, hv, entry_setEntry_self, h, ne_eq, not_true_eq_false,
        not_false_eq_true, if_true, if_false]
    · rw [pwmConsume_valid now s hslot hv]
      simp only [ChannelView.pwmConsume, State.channelView, hslot, hv, entry_setEntry_self, h, ne_eq,
        not_false_eq_true, if_true]

theorem channelView_pwmConsume_ne (h : k ≠ j) : (pwmConsume now j s).channelView k = s.channelView k := by
  by_cases hslot : entry s.slot 0 j = 0
  · rw [pwmConsume_empty now s hslot]
  · by_cases hv : normalize s.cfg .pwm (entry s.slot 0 j).toNat = 0
    · rw [pwmConsume_invalid now s hslot hv]
      simp [State.channelView, entry_setEntry_ne, h.symm]
    · rw [pwmConsume_valid now s hslot hv]
      simp [State.channelView, entry_setEntry_ne, h.symm]

theorem channelView_pwmTimeout_self (h : k < chEntries) :
    (pwmTimeout now k s).channelView k = (s.channelView k).pwmTimeout now := by
  unfold ChannelView.pwmTimeout
  rw [pwmTimeout_eq, apply_ite (State.channelView · k)]
  refine if_congr Iff.rfl ?_ rfl
  simp [State.channelView, entry_setEntry_self, h]

theorem channelView_pwmTimeout_ne (h : k ≠ j) : (pwmTimeout now j s).channelView k = s.channelView k := by
  rw [pwmTimeout_eq]
  split
  · simp [State.channelView, entry_setEntry_ne, h.symm]
  · rfl

/-- UPD under PWM treats each existing channel alone. -/
theorem channelView_pwmUpdate (hn : s.cfg.nPwm ≤ chEntries) (k : Nat) :
    (pwmUpdate now s).channelView k =
      if k < s.cfg.nPwm then ((s.channelView k).pwmConsume now).pwmTimeout now else s.channelView k :=
  channelView_forChannels (f := fun c => (c.pwmConsume now).pwmTimeout now)
    (fun j t hj => by
      have hlt : j < chEntries := Nat.lt_of_lt_of_le hj hn
      rw [channelView_pwmTimeout_self now _ hlt, channelView_pwmConsume_self now t hlt])
    (fun j k t hk => by rw [channelView_pwmTimeout_ne now _ hk, channelView_pwmConsume_ne now t hk]) s k

/-! The pass over a PPM channel (rules R213 to R215). -/

theorem ppmConsume_empty (h : entry s.slot 0 k = 0) : ppmConsume k s = s := if_neg (not_not_intro h)

theorem ppmConsume_lost (h : entry s.slot 0 k ≠ 0) (hl : s.inputLost = true) :
    ppmConsume k s = { s with slot := setEntry s.slot k 0 } :=
  (if_pos h).trans (if_pos hl)

theorem ppmConsume_alive (h : entry s.slot 0 k ≠ 0) (hl : s.inputLost = false) :
    ppmConsume k s =
      { s with slot := setEntry s.slot k 0, ch := setEntry s.ch k (normalize s.cfg .ppm (entry s.slot 0 k).toNat) } :=
  (if_pos h).trans (if_neg (Bool.eq_false_iff.mp hl))

theorem channelView_ppmConsume_self (h : k < chEntries) :
    (ppmConsume k s).channelView k = (s.channelView k).ppmConsume := by
  by_cases hslot : entry s.slot 0 k = 0
  · rw [ppmConsume_empty s hslot]
    simp only [ChannelView.ppmConsume, State.channelView, hslot, ne_eq, not_true_eq_false, false_and, if_false]
  · cases hlost : s.inputLost with
    | true =>
      rw [ppmConsume_lost s hslot hlost]
      simp only [ChannelView.ppmConsume, State.channelView, hlost, entry_setEntry_self, h, Bool.true_eq_false, and_false,
        if_false]
    | false =>
      rw [ppmConsume_alive s hslot hlost]
      simp only [ChannelView.ppmConsume, State.channelView, hslot, hlost, entry_setEntry_self, h, ne_eq,
        not_false_eq_true, and_self, if_true]

theorem channelView_ppmConsume_ne (h : k ≠ j) : (ppmConsume j s).channelView k = s.channelView k := by
  by_cases hslot : entry s.slot 0 j = 0
  · rw [ppmConsume_empty s hslot]
  · cases hlost : s.inputLost with
    | true =>
      rw [ppmConsume_lost s hslot hlost]
      simp [State.channelView, entry_setEntry_ne, h.symm]
    | false =>
      rw [ppmConsume_alive s hslot hlost]
      simp [State.channelView, entry_setEntry_ne, h.symm]

/-- The slots UPD under PPM consumes, and the channels it writes. -/
theorem channelView_ppmConsume_loop {n : Nat} (hn : n ≤ chEntries) (k : Nat) :
    (forChannels n ppmConsume s).channelView k = if k < n then (s.channelView k).ppmConsume else s.channelView k :=
  channelView_forChannels (fun _ t hj => channelView_ppmConsume_self t (Nat.lt_of_lt_of_le hj hn))
    (fun _ _ t hk => channelView_ppmConsume_ne t hk) s k

theorem entry_slot_ppmConsume_loop {n : Nat} (hn : n ≤ chEntries) (k : Nat) :
    entry (forChannels n ppmConsume s).slot 0 k = if k < n then 0 else entry s.slot 0 k := by
  refine (congrArg ChannelView.slot (channelView_ppmConsume_loop s hn k)).trans ?_
  split <;> rfl

theorem entry_ch_ppmConsume_loop {n : Nat} (hn : n ≤ chEntries) (k : Nat) :
    entry (forChannels n ppmConsume s).ch 0 k =
      if k < n ∧ entry s.slot 0 k ≠ 0 ∧ s.inputLost = false then normalize s.cfg .ppm (entry s.slot 0 k).toNat
      else entry s.ch 0 k := by
  refine (congrArg ChannelView.ch (channelView_ppmConsume_loop s hn k)).trans ?_
  by_cases hk : k < n
  · rw [if_pos hk]
    exact if_congr (by simp [hk, State.channelView]) rfl rfl
  · simp [hk, State.channelView]

theorem ppmConsume_loop_frame (n : Nat) :
    forChannels n ppmConsume s =
      { s with slot := (forChannels n ppmConsume s).slot, ch := (forChannels n ppmConsume s).ch } := by
  refine forChannels_keeps (P := fun t => t = { s with slot := t.slot, ch := t.ch }) n rfl ?_
  intro k t _ ht
  have hc := ppmConsume_frame k t
  generalize ppmConsume k t = u at hc
  rw [hc]
  dsimp only
  rw [ht]

/-- What `ppmTakeFrame` leaves (rule R213), by the link and the time of its last sign of life. -/
def State.afterFrameFlag (s : State) (lost : Bool) (stamp : Word) : State :=
  { s with ppmFrame := false, tValid := stamp, inputLost := lost }

/-- The tick under PPM: the frame flag, the slots, the link watchdog. -/
theorem exec_upd_ppm {lost : Bool} {stamp : Word} (hp : s.port = .command) (hproto : s.proto = .ppm)
    (hlost : lost = if s.ppmFrame then false else s.inputLost) (hstamp : stamp = if s.ppmFrame then s.nowMs else s.tValid) :
    exec .upd s = .next (linkWatchdog s.nowMs
      (forChannels s.cfg.nPpm ppmConsume ((s.respond false 0).afterFrameFlag lost stamp))) := by
  rw [exec_upd hp, updateTick_ppm (s := s.respond false 0) _ hproto, ppmUpdate, ppmTakeFrame_eq, hlost, hstamp]
  rfl

theorem linkWatchdog_ppm {stamp : Word} (hproto : s.proto = .ppm) (hstamp : s.tValid = stamp) :
    linkWatchdog now s = if s.cfg.ltPpm < (now - stamp).toNat then s.loseLink else s := by
  rw [linkWatchdog_eq, hproto, hstamp]
  rfl
end

/-- Settles O45, from what UPD does to the channel alone, by whether its timeout has passed. -/
theorem updConvertsEachPwmChannel : Obligations.UpdConvertsEachPwmChannel := by
  intro s hport hproto hn
  have hview := channelView_pwmUpdate s.nowMs (s.respond false 0) hn
  refine ⟨pwmUpdate s.nowMs (s.respond false 0), ?_, pwmUpdate_frame _ _, fun k hk => ?_, ?_⟩
  · rw [exec_upd hport, updateTick_pwm (s := s.respond false 0) _ hproto]
  · have hsame := (hview k).trans (if_neg (Nat.not_lt.mpr hk))
    exact ⟨congrArg ChannelView.slot hsame, congrArg ChannelView.ch hsame, congrArg ChannelView.tPulse hsame,
      congrArg ChannelView.chFault hsame⟩
  · rintro k hk v stamp rfl rfl
    have hpass := (hview k).trans (if_pos hk)
    refine ⟨?_, ?_, fun hlate => ?_, fun hintime => ?_⟩
    · exact (congrArg ChannelView.slot hpass).trans (ChannelView.pwmTimeout_slot ..)
    · exact (congrArg ChannelView.tPulse hpass).trans (ChannelView.pwmTimeout_tPulse ..)
    · have hend := hpass.trans (if_pos hlate)
      exact ⟨congrArg ChannelView.ch hend, congrArg ChannelView.chFault hend⟩
    · have hend := hpass.trans (if_neg (Nat.not_lt.mpr hintime))
      exact ⟨congrArg ChannelView.ch hend, congrArg ChannelView.chFault hend⟩

/-- Settles O46: the loop consumes the slots by the link as the frame flag leaves it, and the watchdog then keeps or zeroes the
channels. -/
theorem updConsumesPpmFrames : Obligations.UpdConsumesPpmFrames := by
  intro s lost stamp hport hproto hn hlost hstamp
  have hexec := exec_upd_ppm s hport hproto hlost hstamp
  have hframe := ppmConsume_loop_frame ((s.respond false 0).afterFrameFlag lost stamp) s.cfg.nPpm
  have hslot := entry_slot_ppmConsume_loop ((s.respond false 0).afterFrameFlag lost stamp) hn
  have hch := entry_ch_ppmConsume_loop ((s.respond false 0).afterFrameFlag lost stamp) hn
  generalize forChannels s.cfg.nPpm ppmConsume _ = u at hexec hframe hslot hch
  have hwatch := linkWatchdog_ppm s.nowMs u ((congrArg State.proto hframe).trans hproto) (congrArg State.tValid hframe)
  rw [hwatch, congrArg State.cfg hframe] at hexec
  by_cases hlate : s.cfg.ltPpm < (s.nowMs - stamp).toNat
  · have hlose := congrArg State.loseLink hframe
    exact ⟨u.loseLink, hexec.trans (congrArg _ (if_pos hlate)), hlose, hslot, fun _ => ⟨rfl, rfl⟩,
      fun hintime => absurd hlate (Nat.not_lt.mpr hintime)⟩
  · have hlink : u.inputLost = lost := congrArg State.inputLost hframe
    refine ⟨u, hexec.trans (congrArg _ (if_neg hlate)), ?_, hslot, fun h => absurd h hlate, fun _ => ⟨hlink, hch⟩⟩
    rw [hlink]
    exact hframe

end Sys2Proof.Machine

/-! NOP, SEL, RDCH and RDFLT (44_control_readout.md sections 1 to 4): the operand each word decodes to, and one equation for
each transaction on the command port. -/

namespace Sys2Proof.Machine

section
variable {w : Word}

theorem decode_nop (h : w.extractLsb' 28 4 = 0x0) : decode w = .nop := by
  simp [decode, opField_toNat h]

theorem decode_rdch (h : w.extractLsb' 28 4 = 0x8) : decode w = .rdch (idxField w).toNat := by
  simp [decode, opField_toNat h]

/-- The codes below 5 are the codes of the protocols (30_encoding.md rule R99). -/
theorem exists_proto_code_eq {c : BitVec 3} (h : c.toNat < 5) : ∃ p : Proto, p.code = c := by
  obtain h | h | h | h | h : c.toNat = 0 ∨ c.toNat = 1 ∨ c.toNat = 2 ∨ c.toNat = 3 ∨ c.toNat = 4 := by omega
  · exact ⟨.crsf, BitVec.eq_of_toNat_eq h.symm⟩
  · exact ⟨.sbus, BitVec.eq_of_toNat_eq h.symm⟩
  · exact ⟨.ibus, BitVec.eq_of_toNat_eq h.symm⟩
  · exact ⟨.ppm, BitVec.eq_of_toNat_eq h.symm⟩
  · exact ⟨.pwm, BitVec.eq_of_toNat_eq h.symm⟩

/-- The three bits of `SUB` SEL decodes are the code of its protocol (30_encoding.md rules R90, R99). -/
theorem decodeProtoSel_of_code {p : Proto} (h : p.code = w.extractLsb' 24 3) :
    decodeProtoSel (subField w) = .proto p := by
  cases p <;> simp [decodeProtoSel, subField_mod_eight, ← h, Proto.code]

/-! The modes of RDFLT (30_encoding.md rule R100). -/

theorem decodeQuery_all (h : w.extractLsb' 24 2 = 0x0) (idx : Byte) : decodeQuery (subField w) idx = .all := by
  simp [decodeQuery, subField_mod_four, h]

theorem decodeQuery_any (h : w.extractLsb' 24 2 = 0x1) (idx : Byte) : decodeQuery (subField w) idx = .any := by
  simp [decodeQuery, subField_mod_four, h]

theorem decodeQuery_channel (h : w.extractLsb' 24 2 = 0x2) (idx : Byte) :
    decodeQuery (subField w) idx = .channel idx.toNat := by
  simp [decodeQuery, subField_mod_four, h]

/-- Mode 3 alone is reserved (30_encoding.md rule R93). -/
theorem decodeQuery_ne_reserved (h : w.extractLsb' 24 2 ≠ 0x3) (idx : Byte) :
    decodeQuery (subField w) idx ≠ .reserved := by
  have hmode : w.extractLsb' 24 2 = 0x0 ∨ w.extractLsb' 24 2 = 0x1 ∨ w.extractLsb' 24 2 = 0x2 := by
    generalize w.extractLsb' 24 2 = m at h
    decide +revert
  rcases hmode with hall | hany | hch
  · simp [decodeQuery_all hall]
  · simp [decodeQuery_any hany]
  · simp [decodeQuery_channel hch]
end

/-! The bit a fault query reads (44_control_readout.md rules R245 to R247). -/

/-- The bit RDFLT answers, for each mode; a reserved query is refused and answers none. -/
def State.queryFaulted (s : State) : FaultQuery → Bool
  | .all => s.linkLost
  | .any => s.anyFaulted
  | .channel i => s.channelFaulted i
  | .reserved => true

section
variable {s : State}

theorem anyFaulted_of_ne_pwm (h : s.proto ≠ .pwm) : s.anyFaulted = s.inputLost := by
  unfold State.anyFaulted
  split
  · next hpwm => exact absurd hpwm h
  all_goals rfl

theorem anyFaulted_pwm_iff (h : s.proto = .pwm) :
    s.anyFaulted = true ↔ ∃ k < s.cfg.nPwm, entry s.chFault true k = true := by
  simp [State.anyFaulted, h, State.pwmAnyFaulted, State.faultOf]

theorem channelFaulted_of_ne_pwm (h : s.proto ≠ .pwm) (i : Nat) :
    s.channelFaulted i = if i < nChannels s.cfg s.proto then s.inputLost else true := by
  unfold State.channelFaulted
  split
  · split
    · next hpwm => exact absurd hpwm h
    all_goals rfl
  · rfl

theorem channelFaulted_pwm (h : s.proto = .pwm) (i : Nat) :
    s.channelFaulted i = if i < s.cfg.nPwm then entry s.chFault true i else true := by
  simp [State.channelFaulted, h, nChannels, State.faultOf]
end

/-! The transactions on the command port. -/

section
variable {s : State} (hp : s.port = .command)
include hp

theorem exec_nop : exec .nop s = .next (s.respond false 0) := onCommandPort_command hp

theorem exec_sel_proto (p : Proto) :
    exec (.sel (.proto p)) s = .next ({ s.resetDecoder with proto := p }.respond false (p.code.setWidth 16)) :=
  onCommandPort_command hp

theorem exec_rdch (i : Nat) :
    exec (.rdch i) s = .next (s.respond false (if i < nChannels s.cfg s.proto then entry s.ch 0 i else 0)) := by
  refine (onCommandPort_command hp).trans ?_
  split <;> rfl

theorem exec_rdflt {q : FaultQuery} (hq : q ≠ .reserved) :
    exec (.rdflt q) s = .next (s.respond false (bitData (s.queryFaulted q))) := by
  cases q with
  | reserved => exact absurd rfl hq
  | _ => exact onCommandPort_command hp

/-- A word of RDFLT answers the bit of its mode and writes nothing. -/
theorem exec_rdflt_word {w : Word} (hop : w.extractLsb' 28 4 = 0x9) (hmode : w.extractLsb' 24 2 ≠ 0x3) :
    ∃ f : Bool, exec (decode w) s = .next (s.respond false (bitData f)) ∧
      (w.extractLsb' 24 2 = 0x0 → f = s.linkLost) ∧ (w.extractLsb' 24 2 = 0x1 → f = s.anyFaulted) ∧
      (w.extractLsb' 24 2 = 0x2 → f = s.channelFaulted (idxField w).toNat) := by
  refine ⟨s.queryFaulted (decodeQuery (subField w) (idxField w)), ?_, fun hall => ?_, fun hany => ?_, fun hch => ?_⟩
  · rw [decode_rdflt hop, exec_rdflt hp (decodeQuery_ne_reserved hmode _)]
  · rw [decodeQuery_all hall]
    rfl
  · rw [decodeQuery_any hany]
    rfl
  · rw [decodeQuery_channel hch]
    rfl
end

/-- Settles O15: such a code is a protocol's, and SEL of a protocol is `State.resetDecoder` under it with the code answered. -/
theorem selConstructsTheDecoder : Obligations.SelConstructsTheDecoder := by
  intro s w hport hop hcode
  obtain ⟨p, hp⟩ := exists_proto_code_eq hcode
  refine ⟨p, hp, ?_⟩
  rw [decode_sel hop, decodeProtoSel_of_code hp, exec_sel_proto hport, hp]
  rfl

/-- Settles O18: outside PWM each aggregation reads `INPUT_LOST`. -/
theorem unifiedFaultQuery : Obligations.UnifiedFaultQuery := by
  intro s w hport hproto hop hmode
  obtain ⟨f, hexec, hall, hany, hch⟩ := exec_rdflt_word hport hop hmode
  refine ⟨f, hexec, ?_, fun h => (hch h).trans (channelFaulted_of_ne_pwm hproto _)⟩
  rintro (h | h)
  · exact (hall h).trans (linkLost_of_ne_pwm hproto)
  · exact (hany h).trans (anyFaulted_of_ne_pwm hproto)

/-- Settles O19: under PWM the aggregations run over the fault flags of the existing channels. -/
theorem pwmFaultQuery : Obligations.PwmFaultQuery := by
  intro s w hport hproto hop hmode
  obtain ⟨f, hexec, hall, hany, hch⟩ := exec_rdflt_word hport hop hmode
  refine ⟨f, hexec, fun h => ?_, fun h => ?_, fun h => (hch h).trans (channelFaulted_pwm hproto _)⟩
  · rw [hall h]
    exact linkLost_pwm_iff hproto
  · rw [hany h]
    exact anyFaulted_pwm_iff hproto

/-- Settles O14: `OP` 0x0 alone decodes to NOP. -/
theorem nopAnswersAndWritesNothing : Obligations.NopAnswersAndWritesNothing := by
  intro s w hport hop
  rw [decode_nop hop]
  exact exec_nop hport

/-- Settles O17: the word decodes to RDCH of its `IDX`. -/
theorem rdchReadsALiveChannel : Obligations.RdchReadsALiveChannel := by
  intro s w hport hop
  rw [decode_rdch hop]
  exact exec_rdch hport (idxField w).toNat

end Sys2Proof.Machine

/-! Responses (30_encoding.md rule R81, 60_exceptions.md rule R264): the decoders drive none, so that a transaction's only
response is the one its port drives. -/

namespace Sys2Proof.Machine

section
variable {s t : State} (b : Byte) (now : Word)

@[simp] theorem frameWatchdog_responses (s : State) : (frameWatchdog now s).responses = s.responses := by
  unfold frameWatchdog
  split
  · rfl
  · split <;> rfl

@[simp] theorem linkWatchdog_responses (s : State) : (linkWatchdog now s).responses = s.responses := by
  rw [linkWatchdog_eq]
  split <;> rfl

/-! RXB, one state of the frame-state machine after another. -/

@[simp] theorem idleByte_responses (s : State) : (idleByte b now s).responses = s.responses := by
  cases hp : s.proto with
  | crsf => rw [idleByte_crsf hp]; split <;> rfl
  | sbus => rw [idleByte_sbus hp]; split <;> rfl
  | ibus => rw [idleByte_ibus hp]; split <;> rfl
  | ppm | pwm => simp [idleByte, hp]

@[simp] theorem lengthByte_responses (s : State) : (lengthByte b now s).responses = s.responses := by
  unfold lengthByte
  split
  · rfl
  · simp

@[simp] theorem headerByte2_responses (s : State) : (headerByte2 b now s).responses = s.responses := by
  unfold headerByte2
  split
  · rfl
  · simp

variable {b now}

theorem complete_responses (h : complete now s = .next t) : t.responses = s.responses := by
  rw [complete_frame h]

theorem collectByte_responses (h : collectByte b now s = .next t) : t.responses = s.responses := by
  unfold collectByte at h
  split at h
  · rw [← next_injective h]; rfl
  · split at h
    · exact complete_responses (s := s.appendByte b) h
    · rw [← next_injective h]; rfl

theorem examineByte_responses (h : examineByte b now s = .next t) : t.responses = s.responses := by
  unfold examineByte at h
  split at h
  · rw [← next_injective h, idleByte_responses]
  · split at h
    · rw [← next_injective h, lengthByte_responses]
    · rw [← next_injective h, headerByte2_responses]
  · exact collectByte_responses h

theorem receiveByte_responses (h : receiveByte b now s = .next t) : t.responses = s.responses := by
  unfold receiveByte at h
  split at h
  · exact (examineByte_responses h).trans (frameWatchdog_responses now s)
  · rw [← next_injective h]
end

/-! UPD and EDGE, by the live protocol. -/

section
variable (now ts : Word) (ch : Nat) (lvl : Level) (s : State)

theorem pwmUpdate_responses : (pwmUpdate now s).responses = s.responses := by
  rw [pwmUpdate_frame]

theorem ppmUpdate_responses : (ppmUpdate now s).responses = s.responses := by
  rw [ppmUpdate, linkWatchdog_responses, ppmConsume_loop_frame, ppmTakeFrame_eq]

theorem updateTick_responses : (updateTick now s).responses = s.responses := by
  cases hp : s.proto with
  | crsf | sbus | ibus => simp [updateTick_byte (s := s), hp, isByteProto]
  | ppm => rw [updateTick_ppm now hp, ppmUpdate_responses]
  | pwm => rw [updateTick_pwm now hp, pwmUpdate_responses]

theorem captureEdge_responses : (captureEdge ch lvl ts s).responses = s.responses := by
  cases hp : s.proto with
  | crsf | sbus | ibus => rw [captureEdge_byte ch lvl ts (by rw [hp]; rfl)]
  | ppm => rw [captureEdge_ppm ch lvl ts hp, ppmEdge_frame]
  | pwm => rw [captureEdge_pwm ch lvl ts hp, pwmEdge_frame]
end

section
variable {i : Instr} {s t : State}

/-- A transaction has one next state, so the responses its equation gives are the responses it drives. -/
theorem responses_eq_of_exec_eq {u : State} {rs : List Response} (h : exec i s = .next t) (he : exec i s = .next u)
    (hu : u.responses = rs) : t.responses = rs := by
  rw [← next_injective (he.symm.trans h), hu]

theorem exec_edgePort_responses (hp : s.port = .edge) (h : exec i s = .next t) : t.responses = s.responses := by
  cases i with
  | edge ch lvl => exact responses_eq_of_exec_eq h (exec_edge ch lvl hp) (captureEdge_responses ..)
  | _ => exact responses_eq_of_exec_eq h (onCommandPort_edge hp) rfl

/-- A word the command port does not refuse gets exactly one response, without the error bit. -/
theorem exec_commandPort_responses (hp : s.port = .command) (hi : ¬ RefusedOnCommandPort i) (h : exec i s = .next t) :
    ∃ data, t.responses = s.responses ++ [⟨false, data⟩] := by
  cases i with
  | nop => exact ⟨_, responses_eq_of_exec_eq h (exec_nop hp) rfl⟩
  | rxb b => exact ⟨_, receiveByte_responses ((exec_rxb b hp).symm.trans h)⟩
  | upd => exact ⟨_, responses_eq_of_exec_eq h (exec_upd hp) (updateTick_responses _ _)⟩
  | sel p =>
    cases p with
    | proto p => exact ⟨_, responses_eq_of_exec_eq h (exec_sel_proto hp p) rfl⟩
    | reserved code => exact absurd trivial hi
  | cki u =>
    cases u with
    | reserved => exact absurd trivial hi
    | _ => exact ⟨_, responses_eq_of_exec_eq h (onCommandPort_command hp) rfl⟩
  | ckf u data =>
    cases u with
    | reserved => exact absurd trivial hi
    | _ => exact ⟨_, responses_eq_of_exec_eq h (onCommandPort_command hp) rfl⟩
  | ckr u =>
    cases u with
    | reserved => exact absurd trivial hi
    | _ => exact ⟨_, responses_eq_of_exec_eq h (onCommandPort_command hp) rfl⟩
  | rdch k => exact ⟨_, responses_eq_of_exec_eq h (exec_rdch hp k) rfl⟩
  | rdflt q =>
    have hq : q ≠ .reserved := fun hq => hi (hq ▸ trivial)
    exact ⟨_, responses_eq_of_exec_eq h (exec_rdflt hp hq) rfl⟩
  | rdst => exact ⟨_, responses_eq_of_exec_eq h (exec_rdst hp) rfl⟩
  | edge | reservedB | reservedC | reservedD | reservedE | reservedF => exact absurd trivial hi
end

/-- Settles O13: the edge port drives no response; the command port answers a refused word by `State.refuseWord` and any other
without the error bit. -/
theorem oneResponseForEachCommand : Obligations.OneResponseForEachCommand := by
  intro i s t h
  refine ⟨fun hport => exec_edgePort_responses hport h, fun hport => ?_⟩
  by_cases hi : RefusedOnCommandPort i
  · have ht : s.refuseWord = t := next_injective ((exec_refused hport hi).symm.trans h)
    exact ⟨⟨true, 0⟩, ht ▸ rfl, iff_of_true rfl hi, fun _ => ⟨rfl, ht.symm⟩⟩
  · obtain ⟨data, hdata⟩ := exec_commandPort_responses hport hi h
    exact ⟨⟨false, data⟩, hdata, iff_of_false Bool.false_ne_true hi, fun herr => absurd herr Bool.false_ne_true⟩

end Sys2Proof.Machine

/-! The round trip of the encoder and the decoder (30_encoding.md sections 2, 4, 5 and 7): what each operand's code decodes to,
and that every operand the decoder gives fits its field. -/

namespace Sys2Proof

/-! The codes of the operands, decoded. -/

theorem decodeProtoSel_code {p : ProtoSel} (h : p.wellFormed = true) : decodeProtoSel p.code = p := by
  cases p with
  | proto p => cases p <;> rfl
  | reserved code =>
    simp only [ProtoSel.wellFormed, Bool.and_eq_true, decide_eq_true_eq] at h
    obtain ⟨h5, h8⟩ := h
    interval_cases code <;> rfl

theorem decodeUnit_code (u : CkUnit) : decodeUnit u.code = u := by
  cases u <;> rfl

/-- An index that fits its field survives the field. -/
theorem toNat_idx {i : Nat} (h : idxFits i = true) : (BitVec.ofNat 8 i).toNat = i :=
  Nat.mod_eq_of_lt (of_decide_eq_true h)

theorem decodeQuery_code {q : FaultQuery} (h : q.wellFormed = true) : decodeQuery q.code q.idx = q := by
  cases q with
  | channel i => exact congrArg FaultQuery.channel (toNat_idx h)
  | _ => rfl

theorem decodeLevel_data (lvl : Level) : decodeLevel lvl.data = lvl := by
  cases lvl <;> rfl

/-! What the decoder gives fits. -/

theorem idxFits_toNat (b : Byte) : idxFits b.toNat = true := decide_eq_true b.isLt

theorem wellFormed_decodeProtoSel (sub : BitVec 4) : (decodeProtoSel sub).wellFormed = true := by
  decide +revert

theorem wellFormed_decodeQuery (sub : BitVec 4) (idx : Byte) : (decodeQuery sub idx).wellFormed = true := by
  unfold decodeQuery
  split
  case h_3 => exact idxFits_toNat idx
  all_goals rfl

/-- Settles O1: the row is read back from `OP`, and each operand from the field that holds its code. -/
theorem decodeEncodeRoundTrip : Obligations.DecodeEncodeRoundTrip := by
  intro i hi
  have hop : ∀ op sub idx data, (opField (formatC op sub idx data)).toNat = op.toNat := fun op sub idx data =>
    congrArg BitVec.toNat (opField_formatC op sub idx data)
  cases i with
  | edge ch lvl => simp [decode, encode, hop, idxField_formatC, dataField_formatC, toNat_idx hi, decodeLevel_data]
  | sel p => simp [decode, encode, hop, subField_formatC, decodeProtoSel_code hi]
  | rdch i => simp [decode, encode, hop, idxField_formatC, toNat_idx hi]
  | rdflt q => simp [decode, encode, hop, subField_formatC, idxField_formatC, decodeQuery_code hi]
  | rxb data => simp [decode, encode, hop, dataField_formatC]
  | cki u | ckf u data | ckr u =>
    simp [decode, encode, hop, subField_formatC, dataField_formatC, decodeUnit_code]
  | _ => simp [decode, encode, hop]

/-- Settles O2: only the rows with a number for an operand ask anything, and a field's number fits the field. -/
theorem decodedWordsAreWellFormed : Obligations.DecodedWordsAreWellFormed := by
  intro w
  unfold decode
  split
  case h_4 => exact idxFits_toNat (idxField w)
  case h_5 => exact wellFormed_decodeProtoSel (subField w)
  case h_9 => exact idxFits_toNat (idxField w)
  case h_10 => exact wellFormed_decodeQuery (subField w) (idxField w)
  all_goals rfl

/-- Settles O4: each word is closed, and its fields are computed. -/
theorem specWordsDecode : Obligations.SpecWordsDecode := by
  unfold Obligations.SpecWordsDecode
  decide

end Sys2Proof

/-! The step, reset and the configuration (00_scope.md sections 4 and 5, 20_memory.md sections 4 and 5, 70_reset_and_hazards.md
sections 1 and 2): the remaining equations of the step, and the two faults. -/

namespace Sys2Proof.Machine

section
variable {s : State} {rest : List Arrival} (hl : configLegal s.cfg = true)
include hl

theorem step_releaseRst (ha : s.arrivals = .releaseRst :: rest) : step s = .next (s.releaseReset rest) := by
  simp [step, hl, ha]

theorem step_idle (ha : s.arrivals = []) : step s = .next s := by simp [step, hl, ha]
end

theorem step_illegal {s : State} (h : configLegal s.cfg = false) : step s = .fault .configRejected := by
  simp [step, h]

theorem stepMany_of_step {s t : State} (h : step s = .next t) (n : Nat) : stepMany (n + 1) s = stepMany n t := by
  simp only [stepMany, h]

/-- Asserting and releasing `rst`, one step each. -/
theorem stepMany_assert_release {s : State} {cut : InProgress} (hl : configLegal s.cfg = true)
    (ha : s.arrivals = [.assertRst cut, .releaseRst]) :
    stepMany 2 s = .next ((s.sampleReset [.releaseRst]).releaseReset []) := by
  rw [stepMany_of_step (step_assertRst hl ha), stepMany_of_step (step_releaseRst (s := s.sampleReset _) hl rfl)]
  rfl

/-! The configuration (00_scope.md rules R7, R8). -/

theorem forall_proto_iff {P : Proto → Prop} : (∀ p, P p) ↔ P .crsf ∧ P .sbus ∧ P .ibus ∧ P .ppm ∧ P .pwm := by
  constructor
  · intro h
    exact ⟨h _, h _, h _, h _, h _⟩
  · rintro ⟨hcrsf, hsbus, hibus, hppm, hpwm⟩ p
    cases p <;> assumption

theorem calibLegal_forall_iff (c : Config) :
    (∀ p, (calib c p).min < (calib c p).max ∧ (calib c p).max + (calib c p).th ≤ 65535) ↔
      calibLegal c.calCrsf = true ∧ calibLegal c.calSbus = true ∧ calibLegal c.calIbus = true ∧
      calibLegal c.calPpm = true ∧ calibLegal c.calPwm = true := by
  simp only [← calibLegal_iff]
  exact forall_proto_iff

theorem frameTimeout_forall_iff (c : Config) (n : Nat) :
    (∀ p ft, frameTimeout c p = some ft → ft < n) ↔ c.ftCrsf < n ∧ c.ftSbus < n ∧ c.ftIbus < n := by
  simp [forall_proto_iff, frameTimeout]

theorem linkTimeout_forall_iff (c : Config) (n : Nat) :
    (∀ p, linkTimeout c p < n) ↔ c.ltCrsf < n ∧ c.ltSbus < n ∧ c.ltIbus < n ∧ c.ltPpm < n ∧ c.ltPwm < n := by
  simp [forall_proto_iff, linkTimeout]

/-! The one fault a transaction can raise (log 8). -/

section
variable {s : State} {b : Byte} {now : Word} {r : Fault}

theorem complete_fault (h : complete now s = .fault r) : r = .bufferRange := by
  unfold complete at h
  split at h
  · split at h
    · cases h
    · cases h; rfl
  all_goals cases h

theorem examineByte_fault (h : examineByte b now s = .fault r) : r = .bufferRange := by
  unfold examineByte collectByte at h
  split at h
  · cases h
  · split at h <;> cases h
  · split at h
    · cases h
    · split at h
      · exact complete_fault h
      · cases h

theorem receiveByte_fault (h : receiveByte b now s = .fault r) : r = .bufferRange := by
  unfold receiveByte at h
  split at h
  · exact examineByte_fault h
  · cases h
end

/-- Every transaction but RXB on the command port answers a next state. -/
theorem exec_progress_of_ne_rxb {i : Instr} (s : State) (h : ∀ b, i = .rxb b → s.port = .edge) :
    ∃ t, exec i s = .next t := by
  cases hp : s.port with
  | edge =>
    cases i with
    | edge ch lvl => exact ⟨_, exec_edge ch lvl hp⟩
    | _ => exact ⟨s, onCommandPort_edge hp⟩
  | command =>
    by_cases href : RefusedOnCommandPort i
    · exact ⟨_, exec_refused hp href⟩
    · cases i with
      | rxb b => exact absurd (hp.symm.trans (h b rfl)) (by decide)
      | nop => exact ⟨_, exec_nop hp⟩
      | upd => exact ⟨_, exec_upd hp⟩
      | rdch k => exact ⟨_, exec_rdch hp k⟩
      | rdst => exact ⟨_, exec_rdst hp⟩
      | rdflt q => exact ⟨_, exec_rdflt hp fun hq => href (hq ▸ trivial)⟩
      | sel p =>
        cases p with
        | proto p => exact ⟨_, exec_sel_proto hp p⟩
        | reserved code => exact absurd trivial href
      | cki u | ckf u data | ckr u =>
        cases u with
        | reserved => exact absurd trivial href
        | _ => exact ⟨_, onCommandPort_command hp⟩
      | edge | reservedB | reservedC | reservedD | reservedE | reservedF => exact absurd trivial href

theorem exec_fault {i : Instr} {s : State} {r : Fault} (h : exec i s = .fault r) : r = .bufferRange := by
  by_cases hi : ∀ b, i = .rxb b → s.port = .edge
  · obtain ⟨t, ht⟩ := exec_progress_of_ne_rxb s hi
    cases ht.symm.trans h
  · push Not at hi
    obtain ⟨b, rfl, hp⟩ := hi
    have hp : s.port = .command := by
      cases hport : s.port with
      | command => rfl
      | edge => exact absurd hport hp
    exact receiveByte_fault ((exec_rxb b hp).symm.trans h)

/-- Under a legal configuration a step raises at most the fault of its transaction. -/
theorem step_fault {s : State} {r : Fault} (hl : configLegal s.cfg = true) (h : step s = .fault r) :
    r = .bufferRange := by
  have hrun : ∀ {rest : List Arrival} {i : Instr} {u : State}, s.unlessReset rest (exec i u) = .fault r → r = .bufferRange := by
    intro rest i u h
    unfold State.unlessReset at h
    split at h
    · cases h
    · exact exec_fault h
  cases ha : s.arrivals with
  | nil => cases (step_idle hl ha).symm.trans h
  | cons a rest =>
    cases a with
    | assertRst cut => cases (step_assertRst hl ha).symm.trans h
    | releaseRst => cases (step_releaseRst hl ha).symm.trans h
    | command c => exact hrun ((step_command hl ha).symm.trans h)
    | edge e => exact hrun ((step_edge hl ha).symm.trans h)
    | both e c => exact hrun ((step_both hl ha).symm.trans h)

/-- Settles O9: a step faults so under an illegal configuration and under no other, and legality is the listed constraints. -/
theorem onlyIllegalConfigurationsAreRejected : Obligations.OnlyIllegalConfigurationsAreRejected := by
  intro s
  have hiff : step s = .fault .configRejected ↔ ¬ configLegal s.cfg = true := by
    constructor
    · intro h hl
      cases step_fault hl h
    · intro h
      exact step_illegal (Bool.not_eq_true _ ▸ h)
  rw [hiff, configLegal_iff, calibLegal_forall_iff, frameTimeout_forall_iff, linkTimeout_forall_iff]
  simp only [and_assoc]

/-- Settles O5: one equation of the step for each kind of arrival. -/
theorem stepRunsTheDecodedWord : Obligations.StepRunsTheDecodedWord := by
  intro s hl
  exact ⟨fun c rest ha => step_command hl ha, fun e rest ha => step_edge hl ha, fun e c rest ha => step_both hl ha,
    fun cut rest ha => step_assertRst hl ha, fun rest ha => step_releaseRst hl ha, step_idle hl⟩

/-- Settles O8: the two steps load every field, whatever it was, and take both arrivals. -/
theorem resetStateIsTheResetInputsState : Obligations.ResetStateIsTheResetInputsState := by
  intro s cut hcfg
  have hl : configLegal s.cfg = true := by rw [hcfg]; decide
  refine ⟨_, stepMany_assert_release (s := { s with arrivals := [.assertRst cut, .releaseRst] }) hl rfl, ?_⟩
  simp only [State.reset, State.resetWith, ← hcfg]
  rfl

/-- Asserting `rst` does no more than `ResetDecoderState` when the accumulators hold their initial values. -/
theorem assertReset_of_initial_accumulators {s : State} (hx : s.accXor = 0x00) (hs : s.accSub = 0xFFFF)
    (hc : s.accCrc = 0x00) : s.assertReset = { s.resetDecoder with proto := s.cfg.resetProto } := by
  have hself : s.assertReset = { s.assertReset with accXor := s.accXor, accSub := s.accSub, accCrc := s.accCrc } := by
    rw [hx, hs, hc]
    rfl
  exact hself

/-- Settles O16: what SEL and reset leave differs in the accumulators at most, and these are at their initial values. -/
theorem resetEqualsSelectingTheResetProtocol : Obligations.ResetEqualsSelectingTheResetProtocol := by
  intro s hport hxor hsub hcrc
  rw [exec_sel_proto hport]
  rw [assertReset_of_initial_accumulators hxor hsub hcrc]
  rfl

end Sys2Proof.Machine

/-! Which fields a transaction writes (10_state.md sections 4, 7 and 8): the fields each part of the decoders can change, and who
can clear `INPUT_LOST`. -/

namespace Sys2Proof.Machine

/-! RXB: assembling a frame writes the frame fields, completing one writes the channels and the link. -/

/-- `t` differs from `s` in the fields of frame assembly and in `LAST_STATUS` at most. -/
def DiffersInFrame (s t : State) : Prop :=
  t = { s with fsm := t.fsm, idx := t.idx, flen := t.flen, buf := t.buf, tFrame := t.tFrame, lastStatus := t.lastStatus }

section
variable {s t u : State} (b : Byte) (now : Word)

theorem DiffersInFrame.trans (h : DiffersInFrame s t) (h' : DiffersInFrame t u) : DiffersInFrame s u := by
  unfold DiffersInFrame at h h' ⊢
  rw [h']
  dsimp only
  rw [h]

/-- What the mid-frame watchdog can do (rule R152). -/
theorem frameWatchdog_cases (s : State) :
    frameWatchdog now s = s ∨ frameWatchdog now s = s.toIdle.withStatus .timeout := by
  unfold frameWatchdog
  split
  · exact .inl rfl
  · split
    · exact .inr rfl
    · exact .inl rfl

theorem frameWatchdog_differs (s : State) : DiffersInFrame s (frameWatchdog now s) := by
  rcases frameWatchdog_cases now s with h | h <;> rw [h] <;> rfl

theorem idleByte_differs (s : State) : DiffersInFrame s (idleByte b now s) := by
  cases hp : s.proto with
  | crsf => rw [idleByte_crsf hp]; split <;> rfl
  | sbus => rw [idleByte_sbus hp]; split <;> rfl
  | ibus => rw [idleByte_ibus hp]; split <;> rfl
  | ppm | pwm =>
    have hsame : idleByte b now s = s := by simp [idleByte, hp]
    rw [hsame]
    rfl

theorem lengthByte_differs (s : State) : DiffersInFrame s (lengthByte b now s) := by
  unfold lengthByte
  split
  · rfl
  · exact .trans (t := (s.withStatus .badLen).toIdle) rfl (idleByte_differs b now _)

theorem headerByte2_differs (s : State) : DiffersInFrame s (headerByte2 b now s) := by
  unfold headerByte2
  split
  · rfl
  · exact .trans (t := (s.withStatus .badHdr).toIdle) rfl (idleByte_differs b now _)

variable {b now}

theorem collectByte_cases (h : collectByte b now s = .next t) :
    DiffersInFrame s t ∨ ∃ u, DiffersInFrame s u ∧ complete now u = .next t := by
  unfold collectByte at h
  split at h
  · rw [← next_injective h]
    exact .inl rfl
  · split at h
    · exact .inr ⟨s.appendByte b, rfl, h⟩
    · rw [← next_injective h]
      exact .inl rfl

theorem examineByte_cases (h : examineByte b now s = .next t) :
    DiffersInFrame s t ∨ ∃ u, DiffersInFrame s u ∧ complete now u = .next t := by
  unfold examineByte at h
  split at h
  · rw [← next_injective h]
    exact .inl (idleByte_differs b now s)
  · split at h
    · rw [← next_injective h]
      exact .inl (lengthByte_differs b now s)
    · rw [← next_injective h]
      exact .inl (headerByte2_differs b now s)
  · exact collectByte_cases h

/-- What RXB can do: nothing under a pulse protocol, and under a byte protocol assemble a frame and perhaps complete it. -/
theorem receiveByte_cases (h : receiveByte b now s = .next t) :
    isByteProto s.proto = false ∧ t = s ∨
      isByteProto s.proto = true ∧
        (DiffersInFrame s t ∨ ∃ u, DiffersInFrame s u ∧ complete now u = .next t) := by
  unfold receiveByte at h
  split at h
  · next hb =>
    have hwatch := frameWatchdog_differs now s
    rcases examineByte_cases h with hd | ⟨u, hd, hc⟩
    · exact .inr ⟨hb, .inl (hwatch.trans hd)⟩
    · exact .inr ⟨hb, .inr ⟨u, hwatch.trans hd, hc⟩⟩
  · next hb => exact .inl ⟨Bool.eq_false_iff.mpr hb, (next_injective h).symm⟩

/-- A completion clears the loss only by accepting a channel frame (rule R169). -/
theorem complete_clears_loss (h : complete now s = .next t) (hs : s.inputLost = true) (ht : t.inputLost = false) :
    t.tValid = now ∧ t.lastStatus = .okCh := by
  rcases complete_cases h with ⟨-, -, rfl⟩ | ⟨-, rfl⟩ | ⟨-, rfl⟩ | ⟨-, rfl⟩
  · rcases completeCrsf_cases now s with hc | hc | hc <;> rw [hc] at ht ⊢
    · exact absurd (hs.symm.trans ht) (by decide)
    · exact absurd (hs.symm.trans ht) (by decide)
    · exact ⟨rfl, rfl⟩
  · rcases completeSbus_cases now s with hc | hc | hc <;> rw [hc] at ht ⊢
    · exact absurd (hs.symm.trans ht) (by decide)
    · exact absurd ht (by simp)
    · exact ⟨rfl, rfl⟩
  · rcases completeIbus_cases now s with hc | hc <;> rw [hc] at ht ⊢
    · exact absurd (hs.symm.trans ht) (by decide)
    · exact ⟨rfl, rfl⟩
  · exact absurd (hs.symm.trans ht) (by decide)

theorem receiveByte_clears_loss (h : receiveByte b now s = .next t) (hs : s.inputLost = true) (ht : t.inputLost = false) :
    isByteProto s.proto = true ∧ t.tValid = now ∧ t.lastStatus = .okCh := by
  rcases receiveByte_cases h with ⟨-, rfl⟩ | ⟨hb, hd | ⟨u, hd, hc⟩⟩
  · exact absurd (hs.symm.trans ht) (by decide)
  · rw [hd] at ht
    exact absurd (hs.symm.trans ht) (by decide)
  · have hu : u.inputLost = true := (congrArg State.inputLost hd).trans hs
    exact ⟨hb, complete_clears_loss hc hu ht⟩
end

/-- A protocol receives bytes, or is one of the two pulse protocols. -/
theorem proto_cases (p : Proto) : isByteProto p = true ∨ p = .ppm ∨ p = .pwm := by
  cases p <;> decide

/-! UPD. -/

section
variable {s : State} (now : Word)

/-- The link watchdog never clears the loss. -/
theorem linkWatchdog_keeps_loss (h : s.inputLost = true) : (linkWatchdog now s).inputLost = true := by
  rw [linkWatchdog_eq]
  split
  · rfl
  · exact h

/-- The fields UPD can write under a byte protocol. -/
theorem updateTick_byte_frame (hb : isByteProto s.proto = true) :
    updateTick now s =
      { s with fsm := (updateTick now s).fsm, idx := (updateTick now s).idx, lastStatus := (updateTick now s).lastStatus
               inputLost := (updateTick now s).inputLost, ch := (updateTick now s).ch } := by
  rw [updateTick_byte hb, linkWatchdog_eq]
  rcases frameWatchdog_cases now s with h | h <;> rw [h] <;> split <;> rfl

/-- Before the watchdog an UPD under PPM has consumed the flag and the slots. -/
theorem ppmUpdate_cases (s : State) :
    ∃ u, u = { s with ppmFrame := false, tValid := if s.ppmFrame then now else s.tValid
                      inputLost := if s.ppmFrame then false else s.inputLost, slot := u.slot, ch := u.ch } ∧
      (ppmUpdate now s = u ∨ ppmUpdate now s = u.loseLink) := by
  have hloop := ppmConsume_loop_frame (ppmTakeFrame now s) s.cfg.nPpm
  refine ⟨forChannels s.cfg.nPpm ppmConsume (ppmTakeFrame now s), ?_, ?_⟩
  · rw [hloop, ppmTakeFrame_eq]
  · rw [ppmUpdate, linkWatchdog_eq]
    split
    · exact .inr rfl
    · exact .inl rfl

/-- The fields UPD can write under PPM. -/
theorem ppmUpdate_frame (s : State) :
    ppmUpdate now s =
      { s with ppmFrame := false, tValid := (ppmUpdate now s).tValid, inputLost := (ppmUpdate now s).inputLost
               slot := (ppmUpdate now s).slot, ch := (ppmUpdate now s).ch } := by
  obtain ⟨u, hu, h | h⟩ := ppmUpdate_cases now s
  · rw [h, hu]
  · rw [h, hu]
    rfl

/-- An UPD clears the loss only by a completed PPM frame (43_pulse_decoders.md rule R213). -/
theorem updateTick_clears_loss (hs : s.inputLost = true) (ht : (updateTick now s).inputLost = false) :
    s.proto = .ppm ∧ s.ppmFrame = true ∧ (updateTick now s).tValid = now := by
  rcases proto_cases s.proto with hp | hp | hp
  · have hw : (frameWatchdog now s).inputLost = true :=
      (congrArg State.inputLost (frameWatchdog_differs now s)).trans hs
    rw [updateTick_byte hp, linkWatchdog_keeps_loss now hw] at ht
    cases ht
  · rw [updateTick_ppm now hp] at ht ⊢
    obtain ⟨u, hu, h | h⟩ := ppmUpdate_cases now s
    · rw [h, hu] at ht ⊢
      cases hf : s.ppmFrame with
      | true => exact ⟨hp, rfl, rfl⟩
      | false => simp [hf, hs] at ht
    · rw [h] at ht
      cases ht
  · rw [updateTick_pwm now hp, pwmUpdate_frame] at ht
    exact absurd (hs.symm.trans ht) (by decide)
end

/-! EDGE. -/

section
variable (ch : Nat) (lvl : Level) (ts : Word) (s : State)

/-- A sync gap only ever sets the frame flag (43_pulse_decoders.md rule R207). -/
theorem ppmSync_sets_ppmFrame : (ppmSync s).ppmFrame = s.ppmFrame ∨ (ppmSync s).ppmFrame = true := by
  cases hs : s.ppmSynced with
  | false =>
    rw [ppmSync_first hs]
    exact .inl rfl
  | true =>
    by_cases hi : s.ppmIdx = s.cfg.nPpm
    · rw [ppmSync_complete hs hi]
      exact .inr rfl
    · rw [ppmSync_short hs hi]
      exact .inl rfl

theorem ppmRise_sets_ppmFrame : (ppmRise ts s).ppmFrame = s.ppmFrame ∨ (ppmRise ts s).ppmFrame = true := by
  cases hprev : s.ppmHavePrev with
  | false =>
    rw [ppmRise_first hprev]
    exact .inl rfl
  | true =>
    by_cases hgap : s.cfg.ppmSyncUs ≤ elapsed ts s.ppmPrev
    · rw [ppmRise_sync hprev hgap]
      exact ppmSync_sets_ppmFrame s
    · rw [ppmRise_interval hprev (Nat.not_le.mp hgap)]
      exact .inl (ppmInterval_ppmFrame _ s)

theorem ppmEdge_sets_ppmFrame : (ppmEdge ch lvl ts s).ppmFrame = s.ppmFrame ∨ (ppmEdge ch lvl ts s).ppmFrame = true := by
  cases lvl with
  | falling => exact .inl rfl
  | rising =>
    by_cases hch : ch = 0
    · subst hch
      exact ppmRise_sets_ppmFrame ts s
    · rw [ppmEdge_ignored (.inl hch)]
      exact .inl rfl

/-- The fields an EDGE can write, whatever the protocol. -/
theorem captureEdge_frame :
    captureEdge ch lvl ts s =
      { s with
        riseTs := (captureEdge ch lvl ts s).riseTs, riseValid := (captureEdge ch lvl ts s).riseValid
        slot := (captureEdge ch lvl ts s).slot, ppmPrev := (captureEdge ch lvl ts s).ppmPrev
        ppmHavePrev := (captureEdge ch lvl ts s).ppmHavePrev, ppmIdx := (captureEdge ch lvl ts s).ppmIdx
        ppmSynced := (captureEdge ch lvl ts s).ppmSynced, ppmFrame := (captureEdge ch lvl ts s).ppmFrame
        lastStatus := (captureEdge ch lvl ts s).lastStatus } := by
  rcases proto_cases s.proto with hp | hp | hp
  · rw [captureEdge_byte ch lvl ts hp]
  · rw [captureEdge_ppm ch lvl ts hp, ppmEdge_frame]
  · rw [captureEdge_pwm ch lvl ts hp, pwmEdge_frame]

/-- The fields an UPD can write, whatever the protocol. -/
theorem updateTick_frame :
    updateTick ts s =
      { s with
        fsm := (updateTick ts s).fsm, idx := (updateTick ts s).idx, lastStatus := (updateTick ts s).lastStatus
        inputLost := (updateTick ts s).inputLost, ch := (updateTick ts s).ch, tValid := (updateTick ts s).tValid
        ppmFrame := (updateTick ts s).ppmFrame, slot := (updateTick ts s).slot, tPulse := (updateTick ts s).tPulse
        chFault := (updateTick ts s).chFault } := by
  rcases proto_cases s.proto with hp | hp | hp
  · rw [updateTick_byte_frame ts hp]
  · rw [updateTick_ppm ts hp, ppmUpdate_frame]
  · rw [updateTick_pwm ts hp, pwmUpdate_frame]
end

/-- Settles O50, effect by effect: each is the state with only the named fields written. -/
theorem onlyTheNamedTransactionsWriteEachField : Obligations.OnlyTheNamedTransactionsWriteEachField := by
  intro i s t h
  cases exec_effect h with
  | ignored | answer | select => simp
  | accXor i a hi | accSub i a hi | accCrc i a hi => rcases hi with rfl | ⟨b, rfl⟩ <;> simp
  | receive b t hp hr =>
    rcases receiveByte_cases hr with ⟨-, rfl⟩ | ⟨hb, hd | ⟨u, hd, hc⟩⟩
    · simp
    · rw [hd]
      simp_all
    · rw [complete_frame hc, hd]
      simp_all
  | update hp =>
    rcases proto_cases s.proto with hb | hproto | hproto
    · rw [updateTick_byte_frame (s := s.respond false 0) _ hb]
      simp [hb]
    · rw [updateTick_ppm (s := s.respond false 0) _ hproto, ppmUpdate_frame]
      simp [hproto]
    · rw [updateTick_pwm (s := s.respond false 0) _ hproto, pwmUpdate_frame]
      simp [hproto]
  | edge ch lvl hp =>
    rcases proto_cases s.proto with hb | hproto | hproto
    · rw [captureEdge_byte ch lvl s.edgeTsUs hb]
      simp
    · rw [captureEdge_ppm ch lvl s.edgeTsUs hproto]
      have hset := ppmEdge_sets_ppmFrame ch lvl s.edgeTsUs s
      rw [ppmEdge_frame]
      simpa [hproto] using fun hne => hset.resolve_left hne
    · rw [captureEdge_pwm ch lvl s.edgeTsUs hproto, pwmEdge_frame]
      simp [hproto]

/-- Settles O51, effect by effect: no part of the decoders writes one of these fields. -/
theorem transactionsKeepParametersAndInputs : Obligations.TransactionsKeepParametersAndInputs := by
  intro i s t h
  cases exec_effect h with
  | ignored | answer | select | accXor | accSub | accCrc => exact ⟨rfl, rfl, rfl, rfl, rfl, rfl⟩
  | receive b t hp hr =>
    rcases receiveByte_cases hr with ⟨-, rfl⟩ | ⟨-, hd | ⟨u, hd, hc⟩⟩
    · exact ⟨rfl, rfl, rfl, rfl, rfl, rfl⟩
    · rw [hd]
      exact ⟨rfl, rfl, rfl, rfl, rfl, rfl⟩
    · rw [complete_frame hc, hd]
      exact ⟨rfl, rfl, rfl, rfl, rfl, rfl⟩
  | update hp =>
    rw [updateTick_frame]
    exact ⟨rfl, rfl, rfl, rfl, rfl, rfl⟩
  | edge ch lvl hp =>
    rw [captureEdge_frame]
    exact ⟨rfl, rfl, rfl, rfl, rfl, rfl⟩

/-- Settles O52: of all effects only a completion that accepts and an UPD that takes a PPM frame clear the loss. -/
theorem lossIsLatchedUntilAValidFrame : Obligations.LossIsLatchedUntilAValidFrame := by
  intro i s t h hs ht
  have hkept : t.inputLost = s.inputLost → False := fun he => by
    rw [he, hs] at ht
    cases ht
  cases exec_effect h with
  | ignored | answer | accXor | accSub | accCrc => exact (hkept rfl).elim
  | select p => cases ht
  | receive b t hp hr =>
    obtain ⟨hb, hstamp, hstatus⟩ := receiveByte_clears_loss hr hs ht
    exact ⟨hp, hstamp, .inl ⟨⟨b, rfl⟩, hb, hstatus⟩⟩
  | update hp =>
    obtain ⟨hproto, hframe, hstamp⟩ := updateTick_clears_loss (s := s.respond false 0) s.nowMs hs ht
    exact ⟨hp, hstamp, .inr ⟨rfl, hproto, hframe⟩⟩
  | edge ch lvl hp => exact (hkept (by rw [captureEdge_frame])).elim

/-- Settles O6: the edge word runs first, and what it leaves (O51) has the command at its head, under the same configuration
and with `rst` as it was. -/
theorem sameCycleEdgeIsAppliedFirst : Obligations.SameCycleEdgeIsAppliedFirst := by
  intro s t e c rest ha hr hstep
  obtain ⟨hl, -⟩ := step_cases hstep
  have hexec : exec (decode e.word) (s.sampleEdge e (.command c :: rest)) = .next t := by
    rw [← hstep, step_both hl ha, unlessReset_released hr]
  obtain ⟨hcfg, harr, -, -, -, hrst⟩ := transactionsKeepParametersAndInputs _ _ _ hexec
  refine ⟨hexec, ?_⟩
  rw [step_command (hcfg ▸ hl) harr, unlessReset_released (hrst.trans hr)]
  rfl

/-- A transaction other than RXB, UPD and SEL leaves the channels and the link status alone (O50). -/
theorem exec_keeps_channels {i : Instr} {s t : State} (h : exec i s = .next t) (hrxb : ∀ b, i ≠ .rxb b) (hupd : i ≠ .upd)
    (hsel : ∀ p, i ≠ .sel p) :
    t.ch = s.ch ∧ t.inputLost = s.inputLost ∧ t.chFault = s.chFault ∧ t.proto = s.proto := by
  obtain ⟨hproto, -, hch, -, hlost, -, -, -, -, -, -, hfault, -⟩ := onlyTheNamedTransactionsWriteEachField i s t h
  simp_all

end Sys2Proof.Machine

/-! The datapath (40_checksum.md sections 1 and 3, 41_unpack_normalize.md): the laws of the checksums, the unpacker bit by bit,
the normalizer over its band. -/

namespace Sys2Proof.Machine

/-! The checksums. -/

/-- The closed form of SUB16 from any accumulator (40_checksum.md rule R113). -/
theorem foldl_subStep (a : Half) (bs : List Byte) :
    bs.foldl subStep a = a - BitVec.ofNat 16 (bs.map BitVec.toNat).sum := by
  induction bs generalizing a with
  | nil => simp
  | cons b bs ih =>
    rw [List.foldl_cons, ih, List.map_cons, List.sum_cons, BitVec.ofNat_add, BitVec.ofNat_toNat, subStep]
    ring

theorem foldl_xorStep_perm {bs cs : List Byte} (h : bs.Perm cs) (a : Byte) : bs.foldl xorStep a = cs.foldl xorStep a := by
  have hcomm : RightCommutative xorStep := ⟨fun a b c => by simp only [xorStep, BitVec.xor_assoc, BitVec.xor_comm b c]⟩
  exact h.foldl_eq a

theorem xorStep_twice (a b : Byte) : xorStep (xorStep a b) b = a := by
  simp [xorStep]

theorem xorStep_injective_acc (b : Byte) : Function.Injective fun a => xorStep a b := fun _ _ h =>
  (BitVec.xor_left_inj b).mp h

theorem xorStep_injective_byte (a : Byte) : Function.Injective (xorStep a) := fun _ _ h =>
  (BitVec.xor_right_inj a).mp h

theorem subStep_injective_acc (b : Byte) : Function.Injective fun a => subStep a b := fun _ _ h => sub_left_injective h

theorem subStep_injective_byte (a : Half) : Function.Injective (subStep a) := fun b c h => by
  have hwide : b.setWidth 16 = c.setWidth 16 := sub_right_injective h
  have hnat := congrArg BitVec.toNat hwide
  simp only [BitVec.toNat_setWidth] at hnat
  apply BitVec.eq_of_toNat_eq
  omega

/-- A fold whose step is injective in the accumulator and in the byte tells apart two sequences that differ in one byte. -/
theorem foldl_detects {α : Type} {f : α → Byte → α} (hacc : ∀ b, Function.Injective fun a => f a b)
    (hbyte : ∀ a, Function.Injective (f a)) (a : α) (bs cs : List Byte) {b b' : Byte} (h : b ≠ b') :
    (bs ++ b :: cs).foldl f a ≠ (bs ++ b' :: cs).foldl f a := by
  simp only [List.foldl_append, List.foldl_cons]
  exact fun heq => h (hbyte _ (foldl_injective hacc cs heq))

/-- Settles O26: SUB16 by its closed form, XOR by its algebra, and the detection of one byte by the injectivity of each step. -/
theorem checksumLaws : Obligations.ChecksumLaws := by
  have hsum : ∀ bs, ibusChecksum16 bs = 0xFFFF - BitVec.ofNat 16 (bs.map BitVec.toNat).sum := foldl_subStep 0xFFFF
  refine ⟨hsum, fun bs cs hperm => ⟨foldl_xorStep_perm hperm 0x00, ?_⟩, fun bs cs b => ?_, fun bs => rfl,
    fun bs cs b b' hne => ⟨?_, ?_, ?_⟩⟩
  · rw [hsum, hsum, (hperm.map BitVec.toNat).sum_eq]
  · simp only [xorChecksum, List.foldl_append, List.foldl_cons, List.foldl_nil, xorStep_twice]
  · exact foldl_detects crcStep_injective_acc crcStep_injective_byte 0x00 bs cs hne
  · exact foldl_detects xorStep_injective_acc xorStep_injective_byte 0x00 bs cs hne
  · exact foldl_detects subStep_injective_acc subStep_injective_byte 0xFFFF bs cs hne

/-! The unpacker. -/

/-- Stream bit `11i + j` lies `(r + j) / 8` bytes after the byte where channel `i` begins, `r` being its first bit there. -/
theorem streamBit_channel (B : Nat → Byte) (off i j : Nat) :
    streamBit B off (11 * i + j) =
      (B (off + 11 * i / 8 + (11 * i % 8 + j) / 8)).getLsbD ((11 * i % 8 + j) % 8) := by
  have hbyte : off + (11 * i + j) / 8 = off + 11 * i / 8 + (11 * i % 8 + j) / 8 := by omega
  have hbit : (11 * i + j) % 8 = (11 * i % 8 + j) % 8 := by omega
  rw [streamBit, hbyte, hbit]

/-! The bits of a byte moved to its place in the window of three (rule R131). -/

theorem testBit_byte_shiftRight (b : Byte) (r j : Nat) : (b.toNat >>> r).testBit j = b.getLsbD (r + j) := by
  rw [Nat.testBit_shiftRight, BitVec.testBit_toNat]

theorem testBit_byte_shiftLeft (b : Byte) (n j : Nat) :
    (b.toNat <<< n).testBit j = (decide (n ≤ j) && b.getLsbD (j - n)) := by
  rw [Nat.testBit_shiftLeft, BitVec.testBit_toNat]

theorem testBit_and_elevenBits (v j : Nat) : (v &&& 0x7FF).testBit j = (decide (j < 11) && v.testBit j) := by
  rw [show 0x7FF = 2 ^ 11 - 1 from rfl, Nat.and_two_pow_sub_one_eq_mod, Nat.testBit_mod_two_pow]

/-- Settles O27, bit by bit: bit `j` of channel `i` lies in the first, second or third byte of the window, and the other two
have nothing there. -/
theorem byteArithmeticUnpacksTheContract : Obligations.ByteArithmeticUnpacksTheContract := by
  intro B off i
  apply Nat.eq_of_testBit_eq
  intro j
  rw [testBit_unpack, unpackByBytes, testBit_and_elevenBits]
  by_cases hj : j < 11
  · have hr : 11 * i % 8 < 8 := Nat.mod_lt _ (by decide)
    rw [streamBit_channel, apply_ite (Nat.testBit · j)]
    simp only [Nat.testBit_or, testBit_byte_shiftRight, testBit_byte_shiftLeft]
    generalize 11 * i % 8 = r at hr
    generalize off + 11 * i / 8 = q
    obtain h | ⟨h8, h16⟩ | h : r + j < 8 ∨ (8 ≤ r + j ∧ r + j < 16) ∨ 16 ≤ r + j := by omega
    · have hbyte : (r + j) / 8 = 0 := by omega
      have hbit : (r + j) % 8 = r + j := by omega
      have hn1 : ¬ 8 - r ≤ j := by omega
      have hn2 : ¬ 16 - r ≤ j := by omega
      simp [hbyte, hbit, hn1, hn2]
    · have hbyte : (r + j) / 8 = 1 := by omega
      have hbit : (r + j) % 8 = j - (8 - r) := by omega
      have h1 : 8 - r ≤ j := by omega
      have hn2 : ¬ 16 - r ≤ j := by omega
      have h0 : (B q).getLsbD (r + j) = false := BitVec.getLsbD_of_ge _ _ h8
      simp [hbyte, hbit, h1, hn2, h0]
    · have hbyte : (r + j) / 8 = 2 := by omega
      have hbit : (r + j) % 8 = j - (16 - r) := by omega
      have h2 : 16 - r ≤ j := by omega
      have hthree : 5 < r := by omega
      have h0 : (B q).getLsbD (r + j) = false := BitVec.getLsbD_of_ge _ _ (by omega)
      have h1 : (B (q + 1)).getLsbD (j - (8 - r)) = false := BitVec.getLsbD_of_ge _ _ (by omega)
      simp [hbyte, hbit, h2, hthree, h0, h1]
  · simp [hj]

/-- Settles O28: bit `j` of channel `i` is stream bit `11i + j`, which the packing took from `v i`. -/
theorem unpackInvertsPack : Obligations.UnpackInvertsPack := by
  intro v B off hv hB i hi
  apply Nat.eq_of_testBit_eq
  intro j
  rw [testBit_unpack]
  by_cases hj : j < 11
  · have hbyte : (11 * i + j) / 8 < 22 := by omega
    have hback : 8 * ((11 * i + j) / 8) + (11 * i + j) % 8 = 11 * i + j := Nat.div_add_mod _ 8
    have hchannel : (11 * i + j) / 11 = i := by omega
    have hbit : (11 * i + j) % 11 = j := by omega
    have hlow : (11 * i + j) % 8 < 8 := Nat.mod_lt _ (by decide)
    rw [streamBit, hB _ hbyte, packedByte, BitVec.getLsbD_ofNat, testBit_sumBits, hback, hchannel, hbit]
    simp [hj, hlow]
  · have hlt : v i < 2 ^ j := Nat.lt_of_lt_of_le (hv i hi) (Nat.pow_le_pow_right (by decide) (Nat.not_lt.mp hj) : 2 ^ 11 ≤ 2 ^ j)
    rw [Nat.testBit_lt_two_pow hlt]
    simp [hj]

/-- Settles O29: eleven bits stay below 2^11, and those of sixteen channels lie in 22 bytes. -/
theorem unpackReadsTwentyTwoBytes : Obligations.UnpackReadsTwentyTwoBytes := by
  intro B C off i
  refine ⟨sumBits_lt _ 11, fun hi hBC => ?_⟩
  apply Nat.eq_of_testBit_eq
  intro j
  rw [testBit_unpack, testBit_unpack]
  by_cases hj : j < 11
  · rw [streamBit, hBC _ (by omega : (11 * i + j) / 8 < 22), streamBit]
  · simp [hj]

/-! The normalizer. -/

/-- The value of a valid sample: the position in the calibrated range, scaled to 1000 to 2000 (rule R135). -/
def scaled (k : Calib) (raw : Nat) : Nat := (clamp raw k.min k.max - k.min) * 1000 / (k.max - k.min) + 1000

/-- A sample inside the band and not 0 (rule R136). -/
def ValidSample (k : Calib) (raw : Nat) : Prop := raw ≠ 0 ∧ k.min ≤ raw + k.th ∧ raw ≤ k.max + k.th

section
variable {c : Config} {k : Calib} {raw : Nat}

theorem normalizeNat_valid (hl : configLegal c = true) (h : ValidSample k raw) :
    normalizeNat c.fixed k raw = scaled k raw := by
  obtain ⟨h0, hlo, hhi⟩ := h
  unfold normalizeNat
  rw [fixed_of_configLegal hl, if_neg h0, if_neg (Nat.not_lt.mpr hlo), if_neg (Nat.not_lt.mpr hhi)]
  rfl

theorem normalizeNat_invalid (f : FixedParams) (h : ¬ ValidSample k raw) : normalizeNat f k raw = 0 := by
  unfold normalizeNat
  split
  · rfl
  · split
    · rfl
    · split
      · rfl
      · next h0 hlo hhi => exact absurd ⟨h0, Nat.not_lt.mp hlo, Nat.not_lt.mp hhi⟩ h

theorem scaled_of_le_min (h : raw ≤ k.min) : scaled k raw = 1000 := by
  have hclamp : clamp raw k.min k.max - k.min = 0 := by unfold clamp; omega
  simp [scaled, hclamp]

section
variable (hk : k.min < k.max)
include hk

theorem clamp_sub_le (raw : Nat) : clamp raw k.min k.max - k.min ≤ k.max - k.min := by
  unfold clamp
  omega

theorem scaled_le (raw : Nat) : scaled k raw ≤ 2000 := by
  have hdiv : (clamp raw k.min k.max - k.min) * 1000 / (k.max - k.min) ≤ 1000 :=
    Nat.div_le_of_le_mul (Nat.mul_le_mul_right 1000 (clamp_sub_le hk raw))
  exact Nat.add_le_add_right hdiv 1000

theorem scaled_of_max_le (h : k.max ≤ raw) : scaled k raw = 2000 := by
  have hpos : 0 < k.max - k.min := by omega
  have hclamp : clamp raw k.min k.max = k.max := by unfold clamp; omega
  rw [scaled, hclamp, Nat.mul_div_cancel_left 1000 hpos]
end

theorem le_scaled (k : Calib) (raw : Nat) : 1000 ≤ scaled k raw := Nat.le_add_left ..

theorem scaled_mono {raw' : Nat} (h : raw ≤ raw') : scaled k raw ≤ scaled k raw' := by
  have hclamp : clamp raw k.min k.max ≤ clamp raw' k.min k.max := by unfold clamp; omega
  exact Nat.add_le_add_right (Nat.div_le_div_right (Nat.mul_le_mul_right 1000 (Nat.sub_le_sub_right hclamp _))) 1000

/-- A calibration of 1000 to 2000 scales nothing. -/
theorem scaled_identity (hmin : k.min = 1000) (hmax : k.max = 2000) (raw : Nat) :
    scaled k raw = min (max raw 1000) 2000 := by
  unfold scaled clamp
  rw [hmin, hmax]
  omega

/-- A sample is valid exactly when it gives a value. -/
theorem normalizeNat_eq_zero_iff (hl : configLegal c = true) : normalizeNat c.fixed k raw = 0 ↔ ¬ ValidSample k raw := by
  constructor
  · intro h hv
    rw [normalizeNat_valid hl hv] at h
    exact absurd (le_scaled k raw) (by omega)
  · exact normalizeNat_invalid _
end

/-- Settles O30, each sample by where it lies. -/
theorem normalizerBandEdges : Obligations.NormalizerBandEdges := by
  intro c k hl hk
  refine ⟨fun raw h => ?_, fun raw h => ?_, fun raw h0 hlo hmin => ?_, fun raw h0 hmax hhi => ?_, ?_,
    fun raw hmin hmax h0 hlo hhi => ?_⟩
  · exact normalizeNat_invalid _ fun hv => Nat.not_le.mpr h hv.2.1
  · exact normalizeNat_invalid _ fun hv => Nat.not_le.mpr h hv.2.2
  · rw [normalizeNat_valid hl ⟨h0, hlo, by omega⟩, scaled_of_le_min hmin]
  · rw [normalizeNat_valid hl ⟨h0, by omega, hhi⟩, scaled_of_max_le hk hmax]
  · exact normalizeNat_invalid _ fun hv => hv.1 rfl
  · rw [normalizeNat_valid hl ⟨h0, by omega, by omega⟩, scaled_identity hmin hmax]

/-- Settles O31: an invalid sample gives 0, and the scale of the valid ones is monotone between 1000 and 2000. -/
theorem normalizerOutputSet : Obligations.NormalizerOutputSet := by
  intro c k raw hl hk
  refine ⟨?_, ?_, fun raw' hle hr hr' => ?_⟩
  · by_cases hv : ValidSample k raw
    · rw [normalizeNat_valid hl hv]
      exact .inr ⟨le_scaled k raw, scaled_le hk raw⟩
    · exact .inl (normalizeNat_invalid _ hv)
  · rw [normalizeNat_eq_zero_iff hl]
    unfold ValidSample
    omega
  · rw [ne_eq, normalizeNat_eq_zero_iff hl, not_not] at hr hr'
    rw [normalizeNat_valid hl hr, normalizeNat_valid hl hr']
    exact scaled_mono hle

end Sys2Proof.Machine

/-! The invariants (10_state.md sections 4, 6 and 9, 20_memory.md sections 1 and 6): a rule for each group of fields an operation
writes, and from them what every step keeps. -/

namespace Sys2Proof.Machine

section
variable {s t : State}

/-! Reset. -/

/-- A state whose decoder fields all stand at their reset values meets the invariants. -/
theorem inv_of_resetDecoder_eq (hl : configLegal s.cfg = true) (hd : s.resetDecoder = s)
    (hr : s.rst = true → s.assertReset = s) : s.Inv := by
  have hch : ∀ i, entry s.ch 0 i = 0 := fun i => by
    rw [← hd]
    exact entry_replicate_default ..
  have hfsm : s.fsm = .idle := by rw [← hd]; rfl
  have hidx : s.idx = 0 := by rw [← hd]; rfl
  have hflen : s.flen = 0 := by rw [← hd]; rfl
  constructor
  case legal => exact hl
  case memory => rw [← hd]; rfl
  case idle => exact fun _ => hidx
  case haveSync => simp [hfsm]
  case collecting => simp [hfsm]
  case flen => rw [hflen]; exact Nat.zero_le _
  case channelRange => exact fun i => .inl (by rw [hch]; rfl)
  case unusedChannels => exact fun i _ => hch i
  case lostLink => intro _ _; rw [← hd]; rfl
  case faultedChannel => exact fun _ i _ => hch i
  case ppmIdx => rw [← hd]; exact Nat.zero_le _
  case byteFields => intro _; rw [← hd]; exact ⟨rfl, rfl, rfl, rfl, rfl, rfl, rfl, rfl, rfl, rfl⟩
  case pulseFields => intro _; rw [← hd]; exact ⟨rfl, rfl, rfl, rfl, rfl⟩
  case pwmFields => intro _; rw [← hd]; exact ⟨rfl, rfl⟩
  case ppmFields => intro _; rw [← hd]; exact ⟨rfl, rfl, rfl, rfl⟩
  case rstHeld => exact hr

/-- Settles O57: the reset state is left alone by reset. -/
theorem resetMeetsTheInvariants : Obligations.ResetMeetsTheInvariants := by
  have hreset : ∀ cfg : Config, configLegal cfg = true → (State.resetWith cfg).Inv := fun cfg hl =>
    inv_of_resetDecoder_eq hl rfl fun h => by cases h
  exact ⟨hreset _ (by decide), hreset⟩

/-- The fields outside the decoders are in no invariant but `rstHeld`. -/
theorem inv_outside (h : s.Inv) {a : List Arrival} {c : Status} {x y : Byte} {u : Half} {p : Port} {n e : Word} {r : Bool}
    {rs : List Response} (hr : r = false) :
    ({ s with arrivals := a, lastStatus := c, accXor := x, accSub := u, accCrc := y, port := p, nowMs := n, edgeTsUs := e
              rst := r, responses := rs } : State).Inv :=
  { h with rstHeld := fun hr' => absurd (hr.symm.trans hr') (by decide) }
end

/-! Channel values (10_state.md rule R27). -/

/-- A channel value the block may hold: 0, or in the output range. -/
def InOutputRange (c : Config) (v : Half) : Prop :=
  v.toNat = 0 ∨ c.fixed.outMin ≤ v.toNat ∧ v.toNat ≤ c.fixed.outMax

theorem inOutputRange_zero (c : Config) : InOutputRange c 0 := .inl rfl

theorem inOutputRange_normalize {c : Config} (hl : configLegal c = true) (p : Proto) (raw : Nat) :
    InOutputRange c (normalize c p raw) := by
  obtain ⟨hcal, -⟩ := (calibLegal_iff _).mp (calibLegal_of_configLegal hl p)
  obtain ⟨hset, -⟩ := normalizerOutputSet c (calib c p) raw hl hcal
  have hnat : (normalize c p raw).toNat = normalizeNat c.fixed (calib c p) raw := by
    rw [normalize, BitVec.toNat_ofNat]
    omega
  have hmin : c.fixed.outMin = 1000 := by rw [fixed_of_configLegal hl]
  have hmax : c.fixed.outMax = 2000 := by rw [fixed_of_configLegal hl]
  rw [InOutputRange, hnat, hmin, hmax]
  exact hset

/-- The channels an accepted frame writes are in range, and 0 where the protocol has no channel. -/
structure FrameChannels (c : Config) (p : Proto) (v : Vector Half chEntries) : Prop where
  range : ∀ i, InOutputRange c (entry v 0 i)
  unused : ∀ i, nChannels c p ≤ i → entry v 0 i = 0

theorem frameChannels_unpacked {s : State} (hl : configLegal s.cfg = true) {p : Proto} (hn : nChannels s.cfg p = 16) (off : Nat) :
    FrameChannels s.cfg p (unpackedChannels s p off) where
  range i := by
    by_cases hi : i < 16
    · rw [entry_unpackedChannels s p off hi]
      exact inOutputRange_normalize hl p _
    · rw [entry_of_ge _ _ _ (Nat.not_lt.mp hi)]
      exact inOutputRange_zero _
  unused i hi := entry_of_ge _ _ _ (hn.symm.le.trans hi)

theorem frameChannels_ibus {s : State} (hl : configLegal s.cfg = true) : FrameChannels s.cfg .ibus (ibusChannels s) where
  range i := by
    by_cases h14 : i < 14
    · rw [entry_ibusChannels_of_lt hl h14]
      exact inOutputRange_normalize hl .ibus _
    · by_cases h16 : i < 16
      · rw [entry_ibusChannels_of_ge hl (Nat.not_lt.mp h14) h16]
        exact inOutputRange_zero _
      · rw [entry_of_ge _ _ _ (Nat.not_lt.mp h16)]
        exact inOutputRange_zero _
  unused i hi := by
    have h14 : 14 ≤ i := by
      rw [nChannels, fixed_of_configLegal hl] at hi
      exact hi
    by_cases h16 : i < 16
    · exact entry_ibusChannels_of_ge hl h14 h16 0
    · exact entry_of_ge _ _ _ (Nat.not_lt.mp h16)

section
variable {s t : State} (h : s.Inv) (hr : s.rst = false)
include h hr

/-! The link. -/

theorem inv_loseLink : s.loseLink.Inv :=
  { h with
    channelRange := fun i => .inl (by rw [State.loseLink_ch, entry_replicate_default]; rfl)
    unusedChannels := fun i _ => entry_replicate_default ..
    lostLink := fun _ _ => rfl
    faultedChannel := fun _ i _ => entry_replicate_default ..
    pwmFields := fun hp => ⟨rfl, (h.pwmFields hp).2⟩
    rstHeld := fun hr' => absurd (hr.symm.trans hr') (by decide) }

theorem inv_linkWatchdog (now : Word) : (linkWatchdog now s).Inv := by
  rw [linkWatchdog_eq]
  split
  · exact inv_loseLink h hr
  · exact h

theorem inv_accept (hb : isByteProto s.proto = true) {v : Vector Half chEntries} (hv : FrameChannels s.cfg s.proto v) (now : Word) :
    (s.accept v now).Inv :=
  { h with
    channelRange := hv.range
    unusedChannels := hv.unused
    lostLink := fun _ hlost => by cases hlost
    faultedChannel := fun hp => absurd (hp ▸ hb : isByteProto .pwm = true) (by decide)
    pwmFields := fun hp => absurd (hp ▸ hb : isByteProto .pwm = true) (by decide)
    rstHeld := fun hr' => absurd (hr.symm.trans hr') (by decide) }
end

/-! Frame assembly. -/

/-- The invariants of the frame-assembly fields. -/
structure State.FrameInv (s : State) : Prop where
  memory : s.buf.wf = true
  idle : s.fsm = .idle → s.idx = 0
  haveSync : s.fsm = .haveSync → s.idx = 1 ∧ (s.proto = .crsf ∨ s.proto = .ibus ∧ s.flen = s.cfg.fixed.ibusLen)
  collecting : s.fsm = .collecting → s.Collecting
  flen : s.flen ≤ s.cfg.fixed.frameBuf

theorem State.Inv.frameInv {s : State} (h : s.Inv) : s.FrameInv := ⟨h.memory, h.idle, h.haveSync, h.collecting, h.flen⟩

section
variable {s t : State} {b : Byte} {now : Word}

/-- An operation of a byte protocol that writes the frame fields only has to keep their invariants. -/
theorem inv_of_differsInFrame (h : s.Inv) (hr : s.rst = false) (hb : isByteProto s.proto = true) (hd : DiffersInFrame s t)
    (hf : t.FrameInv) : t.Inv := by
  unfold DiffersInFrame at hd
  rw [hd] at hf ⊢
  exact
    { h with
      memory := hf.memory, idle := hf.idle, haveSync := hf.haveSync, collecting := hf.collecting, flen := hf.flen
      pulseFields := fun hp => absurd (hb.symm.trans hp) (by decide)
      rstHeld := fun hr' => absurd (hr.symm.trans hr') (by decide) }

/-- Outside `HaveSync` and `Collecting` only the index, the length and the buffer count. -/
theorem frameInv_of_idle (hmem : s.buf.wf = true) (hf : s.fsm = .idle) (hi : s.idx = 0)
    (hflen : s.flen ≤ s.cfg.fixed.frameBuf) : s.FrameInv where
  memory := hmem
  idle _ := hi
  haveSync h := by cases hf.symm.trans h
  collecting h := by cases hf.symm.trans h
  flen := hflen

theorem frameInv_of_haveSync (hmem : s.buf.wf = true) (hf : s.fsm = .haveSync)
    (hs : s.idx = 1 ∧ (s.proto = .crsf ∨ s.proto = .ibus ∧ s.flen = s.cfg.fixed.ibusLen))
    (hflen : s.flen ≤ s.cfg.fixed.frameBuf) : s.FrameInv where
  memory := hmem
  idle h := by cases hf.symm.trans h
  haveSync _ := hs
  collecting h := by cases hf.symm.trans h
  flen := hflen

theorem frameInv_of_collecting (hmem : s.buf.wf = true) (hf : s.fsm = .collecting) (hc : s.Collecting) : s.FrameInv where
  memory := hmem
  idle h := by cases hf.symm.trans h
  haveSync h := by cases hf.symm.trans h
  collecting _ := hc
  flen := hc.2.1

theorem frameInv_toIdle (h : s.FrameInv) : s.toIdle.FrameInv := frameInv_of_idle h.memory rfl rfl h.flen

theorem frameInv_withStatus (h : s.FrameInv) (c : Status) : (s.withStatus c).FrameInv := { h with }

theorem frameInv_frameWatchdog (h : s.FrameInv) (now : Word) : (frameWatchdog now s).FrameInv := by
  rcases frameWatchdog_cases now s with hw | hw <;> rw [hw]
  · exact h
  · exact frameInv_withStatus (frameInv_toIdle h) _

/-- A frame goes on while bytes are outstanding: an appended byte beyond the second keeps its shape. -/
theorem collecting_appendByte (hc : s.Collecting) (hlast : s.idx + 1 ≠ s.flen) : (s.appendByte b).Collecting := by
  unfold State.Collecting at hc ⊢
  obtain ⟨hlt, hle, hproto⟩ := hc
  refine ⟨Nat.lt_of_le_of_ne hlt hlast, hle, ?_⟩
  cases hp : s.proto with
  | crsf =>
    simp only [hp, State.appendByte_proto, State.appendByte_idx, State.appendByte_flen, State.appendByte_buf,
      State.appendByte_cfg] at hproto ⊢
    rw [Memory.byteAt_write_ne _ b (by omega)]
    omega
  | sbus | ibus =>
    simp only [hp, State.appendByte_proto, State.appendByte_idx, State.appendByte_flen, State.appendByte_cfg] at hproto ⊢
    omega
  | ppm | pwm =>
    simp only [hp] at hproto

theorem frameInv_appendByte (h : s.FrameInv) (hf : s.fsm = .collecting) (hroom : s.idx < 64) (hlast : s.idx + 1 ≠ s.flen) :
    (s.appendByte b).FrameInv :=
  frameInv_of_collecting (Memory.wf_write b hroom h.memory) hf (collecting_appendByte (h.collecting hf) hlast)

variable (hl : configLegal s.cfg = true)
include hl

theorem frameInv_idleByte (h : s.FrameInv) : (idleByte b now s).FrameInv := by
  have hmem : (s.buf.write 0 b).wf = true := Memory.wf_write b (by decide) h.memory
  have hfix := fixed_of_configLegal hl
  cases hp : s.proto with
  | crsf =>
    rw [idleByte_crsf hp]
    split
    · exact frameInv_of_haveSync hmem rfl ⟨rfl, .inl hp⟩ h.flen
    · exact h
  | sbus =>
    rw [idleByte_sbus hp]
    split
    · refine frameInv_of_collecting hmem rfl ?_
      simp [State.Collecting, hp, hfix]
    · exact h
  | ibus =>
    rw [idleByte_ibus hp]
    split
    · refine frameInv_of_haveSync hmem rfl ⟨rfl, .inr ⟨hp, rfl⟩⟩ ?_
      simp [hfix]
    · exact h
  | ppm | pwm =>
    have hsame : idleByte b now s = s := by simp [idleByte, hp]
    rw [hsame]
    exact h

theorem frameInv_lengthByte (h : s.FrameInv) (hp : s.proto = .crsf) : (lengthByte b now s).FrameInv := by
  by_cases hb : 3 ≤ b.toNat ∧ b.toNat ≤ 62
  · obtain ⟨h3, h62⟩ := hb
    rw [lengthByte_starts hl h3 h62]
    refine frameInv_of_collecting (Memory.wf_write b (by decide) h.memory) rfl ?_
    simp [State.Collecting, hp, fixed_of_configLegal hl, h3, h62, Nat.lt_of_lt_of_le (by decide : 0 < 3) h3]
  · rw [lengthByte_reexamines hl (by omega)]
    exact frameInv_idleByte (s := (s.withStatus .badLen).toIdle) hl (frameInv_toIdle (frameInv_withStatus h _))

theorem frameInv_headerByte2 (h : s.FrameInv) (hf : s.fsm = .haveSync) (hp : s.proto ≠ .crsf) :
    (headerByte2 b now s).FrameInv := by
  by_cases hb : b = 0x40
  · obtain ⟨-, hproto⟩ := h.haveSync hf
    obtain ⟨hibus, hflen⟩ := hproto.resolve_left hp
    rw [headerByte2_starts hl hb]
    refine frameInv_of_collecting (Memory.wf_write b (by decide) h.memory) rfl ?_
    simp [State.Collecting, hibus, hflen, fixed_of_configLegal hl]
  · rw [headerByte2_reexamines hl hb]
    exact frameInv_idleByte (s := (s.withStatus .badHdr).toIdle) hl (frameInv_toIdle (frameInv_withStatus h _))
end

section
variable {s t : State} {b : Byte} {now : Word} (h : s.Inv) (hr : s.rst = false)
include h hr

theorem inv_withStatus (c : Status) : (s.withStatus c).Inv := inv_outside h hr

theorem inv_frameWatchdog (now : Word) (hb : isByteProto s.proto = true) : (frameWatchdog now s).Inv :=
  inv_of_differsInFrame h hr hb (frameWatchdog_differs now s) (frameInv_frameWatchdog h.frameInv now)
end

/-! RXB. -/

section
variable {s t : State} {b : Byte} {now : Word}

/-- A completion acts on the state forced to `Idle`, with the channels of the full buffer (rules R160 to R170). -/
theorem inv_complete (h : s.toIdle.Inv) (hr : s.rst = false) (hc : complete now s = .next t) : t.Inv := by
  have hl : configLegal s.cfg = true := h.legal
  have hfix := fixed_of_configLegal hl
  rcases complete_cases hc with ⟨hp, -, rfl⟩ | ⟨hp, rfl⟩ | ⟨hp, rfl⟩ | ⟨-, rfl⟩
  · have hb : isByteProto s.proto = true := by rw [hp]; rfl
    have hv : FrameChannels s.cfg s.proto (unpackedChannels s .crsf 3) := by
      rw [hp]
      exact frameChannels_unpacked hl (by rw [nChannels, hfix]) 3
    rcases completeCrsf_cases now s with hc | hc | hc <;> rw [hc]
    · exact inv_withStatus h hr _
    · exact inv_withStatus h hr _
    · exact inv_accept h hr hb hv now
  · have hb : isByteProto s.proto = true := by rw [hp]; rfl
    have hv : FrameChannels s.cfg s.proto (unpackedChannels s .sbus 1) := by
      rw [hp]
      exact frameChannels_unpacked hl (by rw [nChannels, hfix]) 1
    rcases completeSbus_cases now s with hc | hc | hc <;> rw [hc]
    · exact inv_withStatus h hr _
    · exact inv_withStatus (inv_loseLink h hr) hr _
    · exact inv_accept h hr hb hv now
  · have hb : isByteProto s.proto = true := by rw [hp]; rfl
    have hv : FrameChannels s.cfg s.proto (ibusChannels s) := by
      rw [hp]
      exact frameChannels_ibus hl
    rcases completeIbus_cases now s with hc | hc <;> rw [hc]
    · exact inv_withStatus h hr _
    · exact inv_accept h hr hb hv now
  · exact h

variable (h : s.Inv) (hr : s.rst = false)
include h hr

theorem inv_collectByte (hb : isByteProto s.proto = true) (hf : s.fsm = .collecting) (hx : collectByte b now s = .next t) :
    t.Inv := by
  by_cases hfull : s.cfg.fixed.frameBuf ≤ s.idx
  · have ht : (s.withStatus .overflow).toIdle = t := next_injective ((if_pos hfull).symm.trans hx)
    rw [← ht]
    exact inv_of_differsInFrame h hr hb rfl (frameInv_toIdle (frameInv_withStatus h.frameInv _))
  · have hroom : s.idx < s.cfg.fixed.frameBuf := Nat.not_le.mp hfull
    have hroom' : s.idx < 64 := by
      rw [fixed_of_configLegal h.legal] at hroom
      exact hroom
    by_cases hlast : s.idx + 1 = s.flen
    · rw [collectByte_complete hroom hlast] at hx
      have hidle : (s.appendByte b).toIdle.Inv := inv_of_differsInFrame h hr hb rfl
        (frameInv_of_idle (Memory.wf_write b hroom' h.memory) rfl rfl h.flen)
      exact inv_complete hidle hr hx
    · rw [collectByte_append hroom hlast] at hx
      rw [← next_injective hx]
      exact inv_of_differsInFrame h hr hb rfl (frameInv_appendByte h.frameInv hf hroom' hlast)

theorem inv_examineByte (hb : isByteProto s.proto = true) (hx : examineByte b now s = .next t) : t.Inv := by
  cases hf : s.fsm with
  | idle =>
    rw [examineByte_idle hf] at hx
    rw [← next_injective hx]
    exact inv_of_differsInFrame h hr hb (idleByte_differs b now s) (frameInv_idleByte h.legal h.frameInv)
  | haveSync =>
    by_cases hp : s.proto = .crsf
    · rw [examineByte_lengthByte hf hp] at hx
      rw [← next_injective hx]
      exact inv_of_differsInFrame h hr hb (lengthByte_differs b now s) (frameInv_lengthByte h.legal h.frameInv hp)
    · rw [examineByte_headerByte2 hf hp] at hx
      rw [← next_injective hx]
      exact inv_of_differsInFrame h hr hb (headerByte2_differs b now s) (frameInv_headerByte2 h.legal h.frameInv hf hp)
  | collecting =>
    rw [examineByte_collecting hf] at hx
    exact inv_collectByte h hr hb hf hx

/-- The watchdog before the byte keeps the protocol and `rst`. -/
theorem inv_receiveByte (hx : receiveByte b now s = .next t) : t.Inv := by
  unfold receiveByte at hx
  split at hx
  · next hb =>
    have hd := frameWatchdog_differs now s
    exact inv_examineByte (inv_frameWatchdog h hr now hb) ((congrArg State.rst hd).trans hr)
      ((congrArg (isByteProto ∘ State.proto) hd).trans hb) hx
  · rw [← next_injective hx]
    exact h
end

/-! EDGE. -/

section
variable {s : State} (ch : Nat) (lvl : Level) (ts : Word)

theorem ppmRise_ppmIdx_le (h : s.ppmIdx ≤ s.cfg.nPpm) : (ppmRise ts s).ppmIdx ≤ s.cfg.nPpm := by
  cases hprev : s.ppmHavePrev with
  | false =>
    rw [ppmRise_first hprev]
    exact h
  | true =>
    by_cases hgap : s.cfg.ppmSyncUs ≤ elapsed ts s.ppmPrev
    · rw [ppmRise_sync hprev hgap]
      exact Nat.zero_le _
    · rw [ppmRise_interval hprev (Nat.not_le.mp hgap)]
      cases hs : s.ppmSynced with
      | false =>
        rw [ppmInterval_unsynced _ hs]
        exact h
      | true =>
        rcases Nat.lt_or_eq_of_le h with hlt | heq
        · rw [ppmInterval_fills _ hs hlt]
          exact hlt
        · rw [ppmInterval_overruns _ hs heq]
          exact h

theorem ppmEdge_ppmIdx_le (h : s.ppmIdx ≤ s.cfg.nPpm) : (ppmEdge ch lvl ts s).ppmIdx ≤ s.cfg.nPpm := by
  by_cases hi : ch ≠ 0 ∨ lvl = .falling
  · rw [ppmEdge_ignored hi]
    exact h
  · obtain ⟨rfl, rfl⟩ : ch = 0 ∧ lvl = .rising := by cases lvl <;> simp_all
    exact ppmRise_ppmIdx_le ts h

theorem inv_captureEdge (h : s.Inv) (hr : s.rst = false) : (captureEdge ch lvl ts s).Inv := by
  rcases proto_cases s.proto with hb | hp | hp
  · rw [captureEdge_byte ch lvl ts hb]
    exact h
  · have hidx := ppmEdge_ppmIdx_le ch lvl ts h.ppmIdx
    rw [captureEdge_ppm ch lvl ts hp, ppmEdge_frame]
    exact
      { h with
        ppmIdx := hidx
        byteFields := fun hb => absurd (hp ▸ hb : isByteProto .ppm = true) (by decide)
        rstHeld := fun hr' => absurd (hr.symm.trans hr') (by decide) }
  · rw [captureEdge_pwm ch lvl ts hp, pwmEdge_frame]
    exact
      { h with
        byteFields := fun hb => absurd (hp ▸ hb : isByteProto .pwm = true) (by decide)
        ppmFields := fun hppm => absurd (hp.symm.trans hppm) (by decide)
        rstHeld := fun hr' => absurd (hr.symm.trans hr') (by decide) }
end

/-! UPD. -/

theorem nChannels_le_chEntries {c : Config} (hl : configLegal c = true) (p : Proto) : nChannels c p ≤ chEntries := by
  obtain ⟨-, hppm, -, hpwm, -⟩ := (configLegal_iff c).mp hl
  cases p with
  | crsf | sbus => simp [nChannels, fixed_of_configLegal hl]
  | ibus => simp [nChannels, fixed_of_configLegal hl, chEntries]
  | ppm => exact hppm
  | pwm => exact hpwm

section
variable {s : State} {k : Nat} (now : Word) (h : s.Inv) (hr : s.rst = false)
include h hr

/-- A pass of UPD over an existing channel of a pulse protocol keeps the invariants, if it writes a channel value in range, of a
link that is alive under PPM, and leaves a channel it faults at 0 under PWM. -/
theorem inv_writeChannel (hp : s.proto = .ppm ∧ s.inputLost = false ∨ s.proto = .pwm) (hk : k < nChannels s.cfg s.proto) {v : Half}
    (hv : InOutputRange s.cfg v) {slot : Vector Half chEntries} {tPulse : Vector Word chEntries}
    {chFault : Vector Bool chEntries} (hppm : s.proto = .ppm → tPulse = s.tPulse ∧ chFault = s.chFault)
    (hself : s.proto = .pwm → entry chFault true k = true → v = 0)
    (hother : ∀ i, i ≠ k → entry chFault true i = entry s.chFault true i) :
    ({ s with slot := slot, ch := setEntry s.ch k v, tPulse := tPulse, chFault := chFault } : State).Inv := by
  have hlt : k < chEntries := Nat.lt_of_lt_of_le hk (nChannels_le_chEntries h.legal _)
  have hch : ∀ i, entry (setEntry s.ch k v) 0 i = if i = k then v else entry s.ch 0 i := entry_setEntry_eq_ite s.ch 0 v hlt
  have hpulse : isByteProto s.proto = false := by rcases hp with ⟨hp, -⟩ | hp <;> rw [hp] <;> rfl
  refine
    { h with
      channelRange := fun i => ?_
      unusedChannels := fun i hi => ?_
      lostLink := fun hne hlost => ?_
      faultedChannel := fun hpwm i hf => ?_
      byteFields := fun hb => absurd (hpulse.symm.trans hb) (by decide)
      ppmFields := fun hproto => ?_
      rstHeld := fun hr' => absurd (hr.symm.trans hr') (by decide) }
  · dsimp only
    rw [hch]
    split
    · exact hv
    · exact h.channelRange i
  · dsimp only at hi ⊢
    rw [hch, if_neg (by omega)]
    exact h.unusedChannels i hi
  · exact absurd ((hp.resolve_right hne).2.symm.trans hlost) (by decide)
  · dsimp only
    rw [hch]
    split
    · next hik =>
      subst hik
      exact hself hpwm hf
    · next hik => exact h.faultedChannel hpwm i ((hother i hik).symm.trans hf)
  · obtain ⟨hts, hrv, htp, hcf⟩ := h.ppmFields hproto
    obtain ⟨htp', hcf'⟩ := hppm hproto
    exact ⟨hts, hrv, htp'.trans htp, hcf'.trans hcf⟩

/-- A slot is in no invariant of a pulse protocol. -/
theorem inv_writeSlot (hp : isByteProto s.proto = false) (slot : Vector Half chEntries) : ({ s with slot := slot } : State).Inv :=
  { h with
    byteFields := fun hb => absurd (hp.symm.trans hb) (by decide)
    rstHeld := fun hr' => absurd (hr.symm.trans hr') (by decide) }

/-! PWM (43_pulse_decoders.md rules R210 to R212). -/

theorem inv_pwmConsume (hp : s.proto = .pwm) (hk : k < s.cfg.nPwm) : (pwmConsume now k s).Inv := by
  have hk' : k < nChannels s.cfg s.proto := by rw [hp]; exact hk
  have hlt : k < chEntries := Nat.lt_of_lt_of_le hk' (nChannels_le_chEntries h.legal _)
  have hnotPpm : s.proto ≠ .ppm := by rw [hp]; decide
  by_cases hslot : entry s.slot 0 k = 0
  · rw [pwmConsume_empty now s hslot]
    exact h
  · by_cases hv : normalize s.cfg .pwm (entry s.slot 0 k).toNat = 0
    · rw [pwmConsume_invalid now s hslot hv]
      exact inv_writeChannel h hr (.inr hp) hk' (inOutputRange_zero _) (fun hppm => absurd hppm hnotPpm) (fun _ _ => rfl)
        fun _ _ => rfl
    · rw [pwmConsume_valid now s hslot hv]
      refine inv_writeChannel h hr (.inr hp) hk' (inOutputRange_normalize h.legal .pwm _) (fun hppm => absurd hppm hnotPpm)
        (fun _ hf => ?_) fun i hi => entry_setEntry_ne _ _ _ _ _ hi.symm
      rw [entry_setEntry_self _ _ _ _ hlt] at hf
      cases hf

theorem inv_pwmTimeout (hp : s.proto = .pwm) (hk : k < s.cfg.nPwm) : (pwmTimeout now k s).Inv := by
  have hk' : k < nChannels s.cfg s.proto := by rw [hp]; exact hk
  have hnotPpm : s.proto ≠ .ppm := by rw [hp]; decide
  rw [pwmTimeout_eq]
  split
  · exact inv_writeChannel h hr (.inr hp) hk' (inOutputRange_zero _) (fun hppm => absurd hppm hnotPpm) (fun _ _ => rfl)
      fun i hi => entry_setEntry_ne _ _ _ _ _ hi.symm
  · exact h
end

/-- What the loops of UPD keep: the invariants, and the fields that decide which channels exist. -/
structure LoopInv (s t : State) : Prop where
  inv : t.Inv
  cfg : t.cfg = s.cfg
  proto : t.proto = s.proto
  rst : t.rst = s.rst

section
variable {s : State} (now : Word) (h : s.Inv) (hr : s.rst = false)
include h hr

theorem inv_pwmUpdate (hp : s.proto = .pwm) : (pwmUpdate now s).Inv := by
  refine (forChannels_keeps (P := LoopInv s) s.cfg.nPwm ⟨h, rfl, rfl, rfl⟩ fun k t hk ht => ?_).inv
  have hcons := pwmConsume_frame now k t
  have hinv : (pwmConsume now k t).Inv := inv_pwmConsume now ht.inv (ht.rst.trans hr) (ht.proto.trans hp) (ht.cfg ▸ hk)
  generalize pwmConsume now k t = u at hcons hinv
  have hu : LoopInv s u :=
    ⟨hinv, (congrArg State.cfg hcons).trans ht.cfg, (congrArg State.proto hcons).trans ht.proto,
      (congrArg State.rst hcons).trans ht.rst⟩
  refine ⟨inv_pwmTimeout now hinv (hu.rst.trans hr) (hu.proto.trans hp) (hu.cfg ▸ hk), ?_, ?_, ?_⟩ <;> rw [pwmTimeout_eq] <;> split
  · exact hu.cfg
  · exact hu.cfg
  · exact hu.proto
  · exact hu.proto
  · exact hu.rst
  · exact hu.rst

/-! PPM (43_pulse_decoders.md rules R213 to R215). -/

theorem inv_ppmTakeFrame (hp : s.proto = .ppm) : (ppmTakeFrame now s).Inv := by
  unfold ppmTakeFrame
  split
  · exact
      { h with
        lostLink := fun _ hlost => by cases hlost
        byteFields := fun hb => absurd (hp ▸ hb : isByteProto .ppm = true) (by decide)
        pwmFields := fun hpwm => absurd (hp.symm.trans hpwm) (by decide)
        rstHeld := fun hr' => absurd (hr.symm.trans hr') (by decide) }
  · exact h

theorem inv_ppmConsume (hp : s.proto = .ppm) {k : Nat} (hk : k < s.cfg.nPpm) : (ppmConsume k s).Inv := by
  have hk' : k < nChannels s.cfg s.proto := by rw [hp]; exact hk
  by_cases hslot : entry s.slot 0 k = 0
  · rw [ppmConsume_empty s hslot]
    exact h
  · cases hlost : s.inputLost with
    | true =>
      rw [ppmConsume_lost s hslot hlost]
      exact inv_writeSlot h hr (by rw [hp]; rfl) _
    | false =>
      rw [ppmConsume_alive s hslot hlost]
      exact inv_writeChannel h hr (.inl ⟨hp, hlost⟩) hk' (inOutputRange_normalize h.legal .ppm _) (fun _ => ⟨rfl, rfl⟩)
        (fun hpwm => absurd (hp.symm.trans hpwm) (by decide)) fun _ _ => rfl

theorem inv_ppmUpdate (hp : s.proto = .ppm) : (ppmUpdate now s).Inv := by
  have hinv : LoopInv s (ppmTakeFrame now s) :=
    ⟨inv_ppmTakeFrame now h hr hp, by rw [ppmTakeFrame_eq], by rw [ppmTakeFrame_eq], by rw [ppmTakeFrame_eq]⟩
  have hloop : LoopInv s (forChannels s.cfg.nPpm ppmConsume (ppmTakeFrame now s)) := by
    refine forChannels_keeps (P := LoopInv s) s.cfg.nPpm hinv fun k t hk ht => ?_
    have hcons := ppmConsume_frame k t
    exact ⟨inv_ppmConsume ht.inv (ht.rst.trans hr) (ht.proto.trans hp) (ht.cfg ▸ hk),
      (congrArg State.cfg hcons).trans ht.cfg, (congrArg State.proto hcons).trans ht.proto,
      (congrArg State.rst hcons).trans ht.rst⟩
  exact inv_linkWatchdog hloop.inv (hloop.rst.trans hr) now

theorem inv_updateTick : (updateTick now s).Inv := by
  rcases proto_cases s.proto with hb | hp | hp
  · rw [updateTick_byte hb]
    have hd := frameWatchdog_differs now s
    exact inv_linkWatchdog (inv_frameWatchdog h hr now hb) ((congrArg State.rst hd).trans hr) now
  · rw [updateTick_ppm now hp]
    exact inv_ppmUpdate now h hr hp
  · rw [updateTick_pwm now hp]
    exact inv_pwmUpdate now h hr hp
end

/-! The transactions and the step. -/

theorem inv_exec {i : Instr} {s t : State} (h : s.Inv) (hr : s.rst = false) (hx : exec i s = .next t) : t.Inv := by
  cases exec_effect hx with
  | ignored => exact h
  | answer => exact inv_outside h hr
  | accXor | accSub | accCrc => exact inv_outside h hr
  | select p => exact inv_of_resetDecoder_eq h.legal rfl fun hr' => absurd (hr.symm.trans hr') (by decide)
  | receive b t hp hrx => exact inv_receiveByte (s := s.respond false 0) (inv_outside h hr) hr hrx
  | update hp => exact inv_updateTick s.nowMs (s := s.respond false 0) (inv_outside h hr) hr
  | edge ch lvl hp => exact inv_captureEdge ch lvl s.edgeTsUs h hr

/-- Settles O58: an assertion of `rst` leaves the reset state, a release and a skipped transfer the fields they found, and a
transaction keeps the invariants by its effect. -/
theorem stepsKeepTheInvariants : Obligations.StepsKeepTheInvariants := by
  intro s t h hstep
  obtain ⟨-, hcases⟩ := step_cases hstep
  rcases hcases with ⟨-, rfl⟩ | ⟨cut, rest, -, rfl⟩ | ⟨rest, -, rfl⟩ | ⟨a, rest, -, hr, rfl⟩ | ⟨c, rest, -, hr, hx⟩ |
    ⟨e, rest, -, hr, hx⟩ | ⟨e, c, rest, -, hr, hx⟩
  · exact h
  · exact inv_of_resetDecoder_eq h.legal rfl fun _ => rfl
  · exact inv_outside h rfl
  · exact { h with rstHeld := fun _ => congrArg (State.skipTransfer · rest) (h.rstHeld hr) }
  · exact inv_exec (s := s.sampleCommand c rest) (inv_outside h hr) hr hx
  · exact inv_exec (s := s.sampleEdge e rest) (inv_outside h hr) hr hx
  · exact inv_exec (s := s.sampleEdge e (.command c :: rest)) (inv_outside h hr) hr hx

/-! Progress. -/

section
variable {s : State} {b : Byte} {now : Word}

theorem inv_respond (h : s.Inv) (err : Bool) (data : Half) : (s.respond err data).Inv :=
  { h with rstHeld := fun hr => congrArg (State.respond · err data) (h.rstHeld hr) }

theorem complete_progress (h : s.proto = .crsf → (s.buf.byteAt 1).toNat + 1 < s.cfg.fixed.frameBuf) :
    ∃ t, complete now s = .next t := by
  cases hp : s.proto with
  | crsf => exact ⟨(completeCrsf now s).toIdle, by simp [complete, hp, h hp]⟩
  | sbus => exact ⟨_, complete_sbus hp⟩
  | ibus => exact ⟨_, complete_ibus hp⟩
  | ppm | pwm => exact ⟨s.toIdle, by simp [complete, hp]⟩

/-- The length byte of a CRSF frame being collected keeps its check byte inside the buffer (20_memory.md rule R75). -/
theorem collectByte_progress (h : s.Inv) (hf : s.fsm = .collecting) : ∃ t, collectByte b now s = .next t := by
  have hfix := fixed_of_configLegal h.legal
  have hc := h.collecting hf
  unfold State.Collecting at hc
  obtain ⟨hlt, hle, hproto⟩ := hc
  have hroom : s.idx < s.cfg.fixed.frameBuf := Nat.lt_of_lt_of_le hlt hle
  by_cases hlast : s.idx + 1 = s.flen
  · rw [collectByte_complete hroom hlast]
    refine complete_progress fun hp => ?_
    rw [State.appendByte_proto] at hp
    simp only [hp, hfix] at hproto
    rw [State.appendByte_buf, State.appendByte_cfg, hfix, Memory.byteAt_write_ne _ b (by omega)]
    have h62 : (s.buf.byteAt 1).toNat ≤ 62 := hproto.2.2.1
    exact Nat.lt_of_le_of_lt (Nat.succ_le_succ h62) (by decide)
  · exact ⟨_, collectByte_append hroom hlast⟩

theorem examineByte_progress (h : s.Inv) : ∃ t, examineByte b now s = .next t := by
  cases hf : s.fsm with
  | idle => exact ⟨_, examineByte_idle hf⟩
  | haveSync =>
    by_cases hp : s.proto = .crsf
    · exact ⟨_, examineByte_lengthByte hf hp⟩
    · exact ⟨_, examineByte_headerByte2 hf hp⟩
  | collecting =>
    rw [examineByte_collecting hf]
    exact collectByte_progress h hf

/-- The watchdog before the byte leaves the state as it is or forces `Idle`, where every byte has a rule. -/
theorem receiveByte_progress (h : s.Inv) : ∃ t, receiveByte b now s = .next t := by
  unfold receiveByte
  split
  · rcases frameWatchdog_cases now s with hw | hw <;> rw [hw]
    · exact examineByte_progress h
    · exact ⟨_, examineByte_idle rfl⟩
  · exact ⟨s, rfl⟩

theorem exec_progress (i : Instr) (h : s.Inv) : ∃ t, exec i s = .next t := by
  by_cases hi : ∃ b, i = .rxb b ∧ s.port = .command
  · obtain ⟨b, rfl, hp⟩ := hi
    rw [exec_rxb b hp]
    exact receiveByte_progress (inv_respond h false 0)
  · refine exec_progress_of_ne_rxb s fun b hb => ?_
    cases hp : s.port with
    | edge => rfl
    | command => exact absurd ⟨b, hb, hp⟩ hi

theorem unlessReset_progress {rest : List Arrival} {o : Host.Outcome State Fault Refusal}
    (h : s.rst = false → ∃ t, o = .next t) : ∃ t, s.unlessReset rest o = .next t := by
  cases hr : s.rst with
  | true => exact ⟨_, unlessReset_asserted hr rest o⟩
  | false =>
    rw [unlessReset_released hr]
    exact h hr

theorem step_progress (h : s.Inv) : ∃ t, step s = .next t := by
  have hl := h.legal
  cases ha : s.arrivals with
  | nil => exact ⟨_, step_idle hl ha⟩
  | cons a rest =>
    cases a with
    | assertRst cut => exact ⟨_, step_assertRst hl ha⟩
    | releaseRst => exact ⟨_, step_releaseRst hl ha⟩
    | command c =>
      rw [step_command hl ha]
      exact unlessReset_progress fun hr => exec_progress (s := s.sampleCommand c rest) _ (inv_outside h hr)
    | edge e =>
      rw [step_edge hl ha]
      exact unlessReset_progress fun hr => exec_progress (s := s.sampleEdge e rest) _ (inv_outside h hr)
    | both e c =>
      rw [step_both hl ha]
      exact unlessReset_progress fun hr => exec_progress (s := s.sampleEdge e _) _ (inv_outside h hr)
end

/-- Settles O59, by induction on the length of the run: a step goes on (`step_progress`) and keeps the invariants (O58). -/
theorem noTransactionStopsTheBlock : Obligations.NoTransactionStopsTheBlock := by
  intro n
  induction n with
  | zero => exact fun s _ => ⟨s, rfl⟩
  | succ n ih =>
    intro s h
    obtain ⟨t, ht⟩ := step_progress h
    obtain ⟨u, hu⟩ := ih t (stepsKeepTheInvariants s t h ht)
    exact ⟨u, (stepMany_of_step ht n).trans hu⟩

/-- Settles O60: an RXB goes on, and the decoder drives no response after the one RXB drives first. -/
theorem rxbAlwaysCompletes : Obligations.RxbAlwaysCompletes := by
  intro s b h hp
  obtain ⟨t, ht⟩ := exec_progress (.rxb b) h
  exact ⟨t, ht, receiveByte_responses ((exec_rxb b hp).symm.trans ht)⟩

end Sys2Proof.Machine

/-! Runs of transactions on the checksum units (40_checksum.md section 2). -/

namespace Sys2Proof.Machine

section
variable {s t u : State} {i : Instr} {is js : List Instr}

theorem runAll_of_exec (h : exec i s = .next u) (is : List Instr) : runAll (i :: is) s = runAll is u := by
  simp only [runAll, h]

/-- A run of a transaction and more has a state between them. -/
theorem exec_of_runAll_cons (h : runAll (i :: is) s = .next t) : ∃ u, exec i s = .next u ∧ runAll is u = .next t := by
  cases hx : exec i s with
  | next u => exact ⟨u, rfl, (runAll_of_exec hx is).symm.trans h⟩
  | fault r => simp [runAll, hx] at h
  | refused r => simp [runAll, hx] at h

theorem runAll_append (h : runAll is s = .next u) (js : List Instr) : runAll (is ++ js) s = runAll js u := by
  induction is generalizing s with
  | nil =>
    rw [← next_injective h]
    rfl
  | cons i is ih =>
    obtain ⟨v, hv, hrest⟩ := exec_of_runAll_cons h
    rw [List.cons_append, runAll_of_exec hv, ih hrest]
end

/-! The accumulators. -/

theorem bytesFedTo_cons (u : CkUnit) (i : Instr) (is : List Instr) :
    bytesFedTo u (i :: is) = bytesFedTo u [i] ++ bytesFedTo u is := by
  cases i with
  | ckf v b =>
    by_cases hv : v = u <;> simp [bytesFedTo, hv]
  | _ => rfl

theorem bytesFedTo_map_ckf (u : CkUnit) (bs : List Byte) : bytesFedTo u (bs.map (.ckf u)) = bs := by
  induction bs with
  | nil => rfl
  | cons b bs ih => simp [bytesFedTo, ih]

/-- Only CKI and CKF write the units (O50). -/
theorem exec_keeps_accumulators {i : Instr} {s t : State} (h : exec i s = .next t) (hcki : ∀ u, i ≠ .cki u)
    (hckf : ∀ u b, i ≠ .ckf u b) : t.accXor = s.accXor ∧ t.accSub = s.accSub ∧ t.accCrc = s.accCrc := by
  obtain ⟨-, -, -, -, -, -, hxor, hsub, hcrc, -⟩ := onlyTheNamedTransactionsWriteEachField i s t h
  simp_all

/-- What the units hold after a transaction other than CKI: one step of the fold for a byte fed, and the same otherwise (O50). -/
theorem exec_accumulators {i : Instr} {s t : State} (hp : s.port = .command) (hi : ∀ u, i ≠ .cki u) (h : exec i s = .next t) :
    t.accXor = (bytesFedTo .xor [i]).foldl xorStep s.accXor ∧
    t.accSub = (bytesFedTo .sub16 [i]).foldl subStep s.accSub ∧
    t.accCrc = (bytesFedTo .crc8 [i]).foldl crcStep s.accCrc := by
  cases i with
  | ckf u b =>
    cases u with
    | xor =>
      rw [exec_ckf_xor hp] at h
      rw [← next_injective h]
      exact ⟨rfl, rfl, rfl⟩
    | sub16 =>
      rw [exec_ckf_sub16 hp] at h
      rw [← next_injective h]
      exact ⟨rfl, rfl, rfl⟩
    | crc8 =>
      rw [exec_ckf_crc8 hp] at h
      rw [← next_injective h]
      exact ⟨rfl, rfl, rfl⟩
    | reserved =>
      rw [exec_refused (i := .ckf .reserved b) hp trivial] at h
      rw [← next_injective h]
      exact ⟨rfl, rfl, rfl⟩
  | cki u => exact absurd rfl (hi u)
  | _ => exact exec_keeps_accumulators h hi (by simp)

/-- Settles O24, by induction on the run: its first transaction adds its bytes to the folds. -/
theorem accumulatorsFoldTheBytesFed : Obligations.AccumulatorsFoldTheBytesFed := by
  intro is
  induction is with
  | nil =>
    intro s t _ _ h
    rw [← next_injective h]
    exact ⟨rfl, rfl, rfl⟩
  | cons i is ih =>
    intro s t hp hcki h
    obtain ⟨u, hu, hrest⟩ := exec_of_runAll_cons h
    obtain ⟨hxor, hsub, hcrc⟩ := exec_accumulators hp (fun v hv => hcki v (hv ▸ List.mem_cons_self)) hu
    obtain ⟨-, -, hport, -⟩ := transactionsKeepParametersAndInputs i s u hu
    obtain ⟨hxor', hsub', hcrc'⟩ := ih u t (hport.trans hp) (fun v hv => hcki v (List.mem_cons_of_mem _ hv)) hrest
    refine ⟨?_, ?_, ?_⟩
    · rw [bytesFedTo_cons, List.foldl_append, hxor', hxor]
      rfl
    · rw [bytesFedTo_cons, List.foldl_append, hsub', hsub]
      rfl
    · rw [bytesFedTo_cons, List.foldl_append, hcrc', hcrc]

/-! CKR (rule R118). -/

/-- The datum CKR answers; the reserved unit is refused and answers none. -/
def State.accData (s : State) : CkUnit → Half
  | .xor => s.accXor.setWidth 16
  | .sub16 => s.accSub
  | .crc8 => s.accCrc.setWidth 16
  | .reserved => 0

section
variable {s : State} {u : CkUnit} (hp : s.port = .command) (hu : u ≠ .reserved)
include hp hu

theorem exec_ckr : exec (.ckr u) s = .next (s.respond false (s.accData u)) := by
  cases u with
  | reserved => exact absurd rfl hu
  | _ => exact onCommandPort_command hp

theorem exec_cki_answers : ∃ t, exec (.cki u) s = .next t ∧ t.port = .command ∧ t.responses = s.responses ++ [⟨false, 0⟩] := by
  cases u with
  | reserved => exact absurd rfl hu
  | _ => exact ⟨_, onCommandPort_command hp, hp, rfl⟩

theorem exec_ckf_answers (b : Byte) :
    ∃ t, exec (.ckf u b) s = .next t ∧ t.port = .command ∧ t.responses = s.responses ++ [⟨false, 0⟩] := by
  cases u with
  | reserved => exact absurd rfl hu
  | _ => exact ⟨_, onCommandPort_command hp, hp, rfl⟩

theorem runAll_ckf (bs : List Byte) :
    ∃ t, runAll (bs.map (.ckf u)) s = .next t ∧ t.port = .command ∧
      t.responses = s.responses ++ List.replicate bs.length ⟨false, 0⟩ := by
  induction bs generalizing s with
  | nil => exact ⟨s, rfl, hp, by simp⟩
  | cons b bs ih =>
    obtain ⟨v, hv, hvp, hvr⟩ := exec_ckf_answers hp hu b
    obtain ⟨t, ht, htp, htr⟩ := ih hvp
    refine ⟨t, (runAll_of_exec hv _).trans ht, htp, ?_⟩
    rw [htr, hvr, List.append_assoc, List.length_cons, List.replicate_succ]
    rfl

/-- The run CKI, CKF for each byte, CKR: the states after CKI and before CKR, and what CKR answers. -/
theorem runAll_checksum (bs : List Byte) :
    ∃ s0 s1, exec (.cki u) s = .next s0 ∧ s0.port = .command ∧ runAll (bs.map (.ckf u)) s0 = .next s1 ∧
      ∃ t, runAll (.cki u :: bs.map (.ckf u) ++ [.ckr u]) s = .next t ∧
        t.responses = s.responses ++ List.replicate (bs.length + 1) ⟨false, 0⟩ ++ [⟨false, s1.accData u⟩] := by
  obtain ⟨s0, h0, h0p, h0r⟩ := exec_cki_answers hp hu
  obtain ⟨s1, h1, h1p, h1r⟩ := runAll_ckf h0p hu bs
  refine ⟨s0, s1, h0, h0p, h1, s1.respond false (s1.accData u), ?_, ?_⟩
  · rw [List.cons_append, runAll_of_exec h0, runAll_append h1, runAll_of_exec (exec_ckr h1p hu)]
    rfl
  · rw [State.respond_responses, h1r, h0r, List.append_assoc s.responses, List.replicate_succ]
    rfl
end

theorem cki_notMem_map_ckf (u v : CkUnit) (bs : List Byte) : Instr.cki v ∉ bs.map (.ckf u) := by simp

/-- Settles O25: CKI leaves the initial value, the bytes fed fold over it (O24), and CKR answers the result. -/
theorem checksumSequenceAnswersTheLibraryFunction : Obligations.ChecksumSequenceAnswersTheLibraryFunction := by
  intro s bs hp
  refine ⟨?_, ?_, ?_⟩
  · obtain ⟨s0, s1, h0, h0p, h1, t, ht, hr⟩ := runAll_checksum (u := .xor) hp (by decide) bs
    obtain ⟨hacc, -, -⟩ := accumulatorsFoldTheBytesFed _ s0 s1 h0p (fun v => cki_notMem_map_ckf _ v bs) h1
    have hinit : s0.accXor = 0x00 := by rw [← next_injective ((exec_cki_xor hp).symm.trans h0)]; rfl
    rw [bytesFedTo_map_ckf, hinit] at hacc
    rw [State.accData, hacc] at hr
    exact ⟨t, ht, hr⟩
  · obtain ⟨s0, s1, h0, h0p, h1, t, ht, hr⟩ := runAll_checksum (u := .sub16) hp (by decide) bs
    obtain ⟨-, hacc, -⟩ := accumulatorsFoldTheBytesFed _ s0 s1 h0p (fun v => cki_notMem_map_ckf _ v bs) h1
    have hinit : s0.accSub = 0xFFFF := by rw [← next_injective ((exec_cki_sub16 hp).symm.trans h0)]; rfl
    rw [bytesFedTo_map_ckf, hinit] at hacc
    rw [State.accData, hacc] at hr
    exact ⟨t, ht, hr⟩
  · obtain ⟨s0, s1, h0, h0p, h1, t, ht, hr⟩ := runAll_checksum (u := .crc8) hp (by decide) bs
    obtain ⟨-, -, hacc⟩ := accumulatorsFoldTheBytesFed _ s0 s1 h0p (fun v => cki_notMem_map_ckf _ v bs) h1
    have hinit : s0.accCrc = 0x00 := by rw [← next_injective ((exec_cki_crc8 hp).symm.trans h0)]; rfl
    rw [bytesFedTo_map_ckf, hinit] at hacc
    rw [State.accData, hacc] at hr
    exact ⟨t, ht, hr⟩

/-- Settles O23: the word decodes to CKR of the unit whose code it holds; code 3 is a reserved sub-value (O11). -/
theorem ckrReadsOneUnit : Obligations.CkrReadsOneUnit := by
  intro s w hport hop
  refine ⟨fun hunit => ?_, fun hunit => ?_, fun hunit => ?_, fun hunit => ?_⟩
  · rw [decode_ckr hop, decodeUnit_of_code (u := .xor) hunit]
    exact exec_ckr hport (by decide)
  · rw [decode_ckr hop, decodeUnit_of_code (u := .sub16) hunit]
    exact exec_ckr hport (by decide)
  · rw [decode_ckr hop, decodeUnit_of_code (u := .crc8) hunit]
    exact exec_ckr hport (by decide)
  · exact reservedSubValuesAnswerAnError s w hport (.inr (.inl ⟨.inr (.inr hop), hunit⟩))

end Sys2Proof.Machine

/-! UPD under a byte protocol, the bytes of a frame being collected, and runs of reads (42_byte_decoders.md sections 2, 4 and 5,
44_control_readout.md section 6). -/

namespace Sys2Proof.Machine

/-- Settles O44: the mid-frame watchdog decides the frame fields, and the link watchdog after it, which sees the same link,
decides the link and the channels. -/
theorem updRunsTheByteWatchdogs : Obligations.UpdRunsTheByteWatchdogs := by
  intro s ft hp hft
  have hb : isByteProto s.proto = true := isByteProto_of_frameTimeout hft
  have hexec := exec_upd_watched hp hb
  have hframe := updateTick_byte_frame (s := s.respond false 0) s.nowMs hb
  rw [updateTick_byte (s := s.respond false 0) hb] at hframe
  have hd := frameWatchdog_differs s.nowMs (s.respond false 0)
  have hfires := frameWatchdog_fires (s := s.respond false 0) (now := s.nowMs) hft
  have hholds := frameWatchdog_holds (s := s.respond false 0) (now := s.nowMs) hft
  generalize frameWatchdog s.nowMs (s.respond false 0) = w at hexec hframe hd hfires hholds
  have hcfg : w.cfg = s.cfg := by rw [hd]; rfl
  have hproto : w.proto = s.proto := by rw [hd]; rfl
  have hvalid : w.tValid = s.tValid := by rw [hd]; rfl
  have hlink := linkWatchdog_eq s.nowMs w
  rw [hcfg, hproto, hvalid] at hlink
  obtain ⟨hfsm, hidx, hstatus⟩ := linkWatchdog_frame s.nowMs w
  refine ⟨_, hexec, hframe, fun hlate => ?_, fun hintime => ?_, fun ⟨hne, hlate⟩ => ?_, fun hintime => ?_⟩
  · rw [hlink, if_pos hlate]
    exact ⟨rfl, rfl⟩
  · rw [hlink, if_neg (Nat.not_lt.mpr hintime), hd]
    exact ⟨rfl, rfl⟩
  · rw [hfsm, hidx, hstatus, hfires hne hlate]
    exact ⟨rfl, rfl, rfl⟩
  · rw [hfsm, hidx, hstatus, hholds hintime]
    exact ⟨rfl, rfl, rfl⟩

/-- Settles O38: within the timeout the byte is collected, and the buffer has room for it or not. -/
theorem collectingAppendsOneByte : Obligations.CollectingAppendsOneByte := by
  intro s b ft hl hp hf hft htime
  have hexec : exec (.rxb b) s = collectByte b s.nowMs (s.respond false 0) := by
    rw [exec_rxb_in_time hp hft (.inr htime), examineByte_collecting (s := s.respond false 0) hf]
  have hbuf : s.cfg.fixed.frameBuf = 64 := by rw [fixed_of_configLegal hl]
  constructor
  · intro hroom hlast
    refine ⟨(s.respond false 0).appendByte b, ?_, rfl, fun a => Memory.byteAt_write s.buf s.idx a b⟩
    rw [hexec]
    exact collectByte_append (s := s.respond false 0) (hbuf ▸ hroom) hlast
  · intro hfull
    rw [hexec]
    exact if_pos (hbuf ▸ hfull)

/-! Runs in which nothing writes the channels. -/

/-- No assertion of `rst` and no RXB, UPD or SEL command is to come. -/
def ReadsOnly (as : List Arrival) : Prop :=
  ∀ a ∈ as, (∀ cut, a ≠ .assertRst cut) ∧
    ∀ c : CommandTransfer, (a = .command c ∨ ∃ e, a = .both e c) →
      c.word.extractLsb' 28 4 ≠ 0x1 ∧ c.word.extractLsb' 28 4 ≠ 0x2 ∧ c.word.extractLsb' 28 4 ≠ 0x4

theorem ReadsOnly.tail {a : Arrival} {as : List Arrival} (h : ReadsOnly (a :: as)) : ReadsOnly as := fun x hx =>
  h x (List.mem_cons_of_mem a hx)

/-- Of an edge and a command of one cycle the command remains to come. -/
theorem ReadsOnly.command_of_both {e : EdgeTransfer} {c : CommandTransfer} {as : List Arrival}
    (h : ReadsOnly (.both e c :: as)) : ReadsOnly (.command c :: as) := by
  intro x hx
  rcases List.mem_cons.mp hx with rfl | hx
  · refine ⟨by simp, fun c' hc' => ?_⟩
    obtain ⟨-, hboth⟩ := h (.both e c) List.mem_cons_self
    rcases hc' with hc' | ⟨e', hc'⟩
    · cases hc'
      exact hboth c (.inr ⟨e, rfl⟩)
    · cases hc'
  · exact h.tail x hx

/-- The channels and the link status of `t` are those of `s`. -/
def SameSnapshot (s t : State) : Prop :=
  t.ch = s.ch ∧ t.inputLost = s.inputLost ∧ t.chFault = s.chFault ∧ t.proto = s.proto

theorem SameSnapshot.trans {s t u : State} (h : SameSnapshot s t) (h' : SameSnapshot t u) : SameSnapshot s u := by
  obtain ⟨hch, hlost, hfault, hproto⟩ := h
  obtain ⟨hch', hlost', hfault', hproto'⟩ := h'
  exact ⟨hch'.trans hch, hlost'.trans hlost, hfault'.trans hfault, hproto'.trans hproto⟩

section
open Sys2Proof.Laws.EncodesOpcode (opcode)
variable {s t : State}

/-- A command word of another row than RXB, UPD and SEL leaves the snapshot. -/
theorem exec_word_keeps_snapshot {w : Word} (h1 : w.extractLsb' 28 4 ≠ 0x1) (h2 : w.extractLsb' 28 4 ≠ 0x2)
    (h4 : w.extractLsb' 28 4 ≠ 0x4) (h : exec (decode w) s = .next t) : SameSnapshot s t := by
  rw [← opcode_decode] at h1 h2 h4
  refine exec_keeps_channels h (fun b hb => h1 ?_) (fun hu => h2 ?_) fun p hp => h4 ?_
  · rw [hb]; rfl
  · rw [hu]; rfl
  · rw [hp]; rfl

/-- No word on the edge port writes the snapshot: it is an EDGE or ignored. -/
theorem exec_edgePort_keeps_snapshot {i : Instr} (hp : s.port = .edge) (h : exec i s = .next t) : SameSnapshot s t := by
  by_cases hi : ∃ ch lvl, i = .edge ch lvl
  · obtain ⟨ch, lvl, rfl⟩ := hi
    exact exec_keeps_channels h (by simp) (by simp) (by simp)
  · push Not at hi
    rw [exec_edgePort_of_ne_edge hp hi] at h
    rw [← next_injective h]
    exact ⟨rfl, rfl, rfl, rfl⟩

theorem step_keeps_snapshot (hq : ReadsOnly s.arrivals) (h : step s = .next t) :
    ReadsOnly t.arrivals ∧ SameSnapshot s t := by
  obtain ⟨-, hcases⟩ := step_cases h
  rcases hcases with ⟨-, rfl⟩ | ⟨cut, rest, ha, rfl⟩ | ⟨rest, ha, rfl⟩ | ⟨a, rest, ha, -, rfl⟩ | ⟨c, rest, ha, -, hx⟩ |
    ⟨e, rest, ha, -, hx⟩ | ⟨e, c, rest, ha, -, hx⟩
  · exact ⟨hq, rfl, rfl, rfl, rfl⟩
  · rw [ha] at hq
    exact absurd rfl ((hq _ List.mem_cons_self).1 cut)
  · rw [ha] at hq
    exact ⟨hq.tail, rfl, rfl, rfl, rfl⟩
  · rw [ha] at hq
    exact ⟨hq.tail, rfl, rfl, rfl, rfl⟩
  · rw [ha] at hq
    obtain ⟨-, hcommand⟩ := hq _ List.mem_cons_self
    obtain ⟨h1, h2, h4⟩ := hcommand c (.inl rfl)
    obtain ⟨-, harr, -⟩ := transactionsKeepParametersAndInputs _ _ _ hx
    exact ⟨harr ▸ hq.tail, exec_word_keeps_snapshot (s := s.sampleCommand c rest) h1 h2 h4 hx⟩
  · rw [ha] at hq
    obtain ⟨-, harr, -⟩ := transactionsKeepParametersAndInputs _ _ _ hx
    exact ⟨harr ▸ hq.tail, exec_edgePort_keeps_snapshot (s := s.sampleEdge e rest) rfl hx⟩
  · rw [ha] at hq
    obtain ⟨-, harr, -⟩ := transactionsKeepParametersAndInputs _ _ _ hx
    exact ⟨harr ▸ hq.command_of_both, exec_edgePort_keeps_snapshot (s := s.sampleEdge e _) rfl hx⟩
end

theorem step_of_stepMany_succ {n : Nat} {s t : State} (h : stepMany (n + 1) s = .next t) :
    ∃ u, step s = .next u ∧ stepMany n u = .next t := by
  cases hx : step s with
  | next u => exact ⟨u, rfl, (stepMany_of_step hx n).symm.trans h⟩
  | fault r => simp [stepMany, hx] at h
  | refused r => simp [stepMany, hx] at h

/-- Settles O55, by induction on the length of the run. -/
theorem readsSeeOneSnapshot : Obligations.ReadsSeeOneSnapshot := by
  intro n
  induction n with
  | zero =>
    intro s t _ h
    rw [← next_injective h]
    exact ⟨rfl, rfl, rfl, rfl⟩
  | succ n ih =>
    intro s t hq h
    obtain ⟨u, hu, hrest⟩ := step_of_stepMany_succ h
    obtain ⟨hq', hsame⟩ := step_keeps_snapshot hq hu
    exact hsame.trans (ih u t hq' hrest)

end Sys2Proof.Machine

/-! Whole frames (42_byte_decoders.md sections 2, 3 and 5, 30_encoding.md section 3): a frame received byte by byte, from the rules
for its first bytes, the bytes that are collected and the byte that completes it. -/

namespace Sys2Proof.Machine

/-! Runs of received bytes. -/

section
variable {s s' t u : State} {b : Byte} {now : Word}

theorem receive_of_exec (h : exec (.rxb b) { s with nowMs := now } = .next u) (rest : List (Byte × Word)) :
    receive ((b, now) :: rest) s = receive rest u := by
  simp only [receive, h]

theorem exec_of_receive_cons {rest : List (Byte × Word)} (h : receive ((b, now) :: rest) s = .next t) :
    ∃ u, exec (.rxb b) { s with nowMs := now } = .next u ∧ receive rest u = .next t := by
  cases hx : exec (.rxb b) { s with nowMs := now } with
  | next u => exact ⟨u, rfl, (receive_of_exec hx rest).symm.trans h⟩
  | fault r => simp [receive, hx] at h
  | refused r => simp [receive, hx] at h

/-- Two states that the first byte cannot tell apart receive alike. -/
theorem receive_congr (h : exec (.rxb b) { s with nowMs := now } = exec (.rxb b) { s' with nowMs := now })
    (rest : List (Byte × Word)) : receive ((b, now) :: rest) s = receive ((b, now) :: rest) s' := by
  simp only [receive, h]

theorem receive_append {bs : List (Byte × Word)} (h : receive bs s = .next u) (rest : List (Byte × Word)) :
    receive (bs ++ rest) s = receive rest u := by
  induction bs generalizing s with
  | nil =>
    rw [← next_injective h]
    rfl
  | cons x bs ih =>
    obtain ⟨v, hv, hrest⟩ := exec_of_receive_cons h
    rw [List.cons_append, receive_of_exec hv, ih hrest]

/-- One more byte of a frame. -/
theorem receive_take_succ {f : List Byte} {times : List Word} {k : Nat} (hk : k < f.length) (hlen : times.length = f.length)
    (h : receive ((f.zip times).take k) s = .next t)
    (hx : exec (.rxb (f.getD k 0)) { t with nowMs := times.getD k 0 } = .next u) :
    receive ((f.zip times).take (k + 1)) s = .next u := by
  have hk' : k < times.length := hlen ▸ hk
  have hbyte : (f.zip times)[k]? = some (f.getD k 0, times.getD k 0) := by
    rw [List.getElem?_zip_eq_some]
    simp [hk, hk']
  rw [List.take_add_one, hbyte, receive_append h]
  exact receive_of_exec hx []
end

/-! The bytes of a frame. -/

theorem map_range_getD {f : List Byte} {lo n : Nat} (h : lo + n ≤ f.length) :
    (List.range n).map (fun k => f.getD (lo + k) 0) = (f.drop lo).take n := by
  apply List.ext_getElem
  · simp
    omega
  · intro k hk hk'
    simp at hk
    simp [show lo + k < f.length by omega]

/-- An array that reads like `f` has the bytes of `f`. -/
theorem map_range_eq_take_drop {f : List Byte} {B : Nat → Byte} (hB : ∀ a < f.length, B a = f.getD a 0) {lo n : Nat}
    (h : lo + n ≤ f.length) : (List.range n).map (fun k => B (lo + k)) = (f.drop lo).take n := by
  rw [← map_range_getD h]
  refine List.map_congr_left fun k hk => hB _ ?_
  have := List.mem_range.mp hk
  omega

/-- A 16-bit check is its low byte and its high byte. -/
theorem toNat_eq_bytes (c : Half) : c.toNat = (c.extractLsb' 0 8).toNat + 256 * (c.extractLsb' 8 8).toNat := by
  have := c.isLt
  simp only [BitVec.extractLsb'_toNat, Nat.shiftRight_eq_div_pow]
  omega

/-- Below the size of the array the default is not read. -/
theorem entry_eq_entry {α : Type} (v : Vector α chEntries) (d d' : α) {i : Nat} (h : i < chEntries) :
    entry v d i = entry v d' i := by simp [entry, h]

/-! The bytes a valid channel frame of each protocol has at fixed places (30_encoding.md rules R85 to R87). -/

theorem crsfFrame_bytes {c : Config} {f : List Byte} (h : ChannelFrame c .crsf f) :
    f.length = 26 ∧ f.getD 0 0 = 0xC8 ∧ f.getD 1 0 = 0x18 ∧ f.getD 2 0 = 0x16 ∧
      crsfCheckByte c ((f.drop 2).take 23) = f.getD 25 0 := by
  obtain ⟨payload, hlen, rfl⟩ := h
  refine ⟨by simp [hlen], rfl, rfl, rfl, ?_⟩
  have hbody : (([0xC8, 0x18, 0x16] ++ payload ++ [crsfCheckByte c (0x16 :: payload)]).drop 2).take 23 = 0x16 :: payload := by
    simp [hlen]
  rw [hbody]
  simp [hlen]

theorem sbusFrame_bytes {c : Config} {f : List Byte} (h : ChannelFrame c .sbus f) :
    f.length = 25 ∧ f.getD 0 0 = 0x0F ∧ (f.getD 23 0).getLsbD 3 = false ∧ f.getD 24 0 = 0x00 := by
  obtain ⟨payload, flags, hlen, hflags, rfl⟩ := h
  refine ⟨by simp [hlen], rfl, ?_, ?_⟩
  · simpa [hlen] using hflags
  · simp [hlen]

theorem ibusFrame_bytes {c : Config} {f : List Byte} (h : ChannelFrame c .ibus f) :
    f.length = 32 ∧ f.getD 0 0 = 0x20 ∧ f.getD 1 0 = 0x40 ∧
      (ibusChecksum16 ((f.drop 0).take 30)).toNat = (f.getD 30 0).toNat + 256 * (f.getD 31 0).toNat := by
  obtain ⟨payload, hlen, rfl⟩ := h
  refine ⟨by simp [hlen], rfl, rfl, ?_⟩
  generalize hck : ibusChecksum16 ([0x20, 0x40] ++ payload) = ck
  have hbody : (([0x20, 0x40] ++ payload ++ [ck.extractLsb' 0 8, ck.extractLsb' 8 8]).drop 0).take 30 =
      [0x20, 0x40] ++ payload := by
    simp [hlen]
  rw [hbody, hck, toNat_eq_bytes]
  simp [hlen]

/-- A valid frame is longer than its first two bytes and fits the buffer. -/
theorem channelFrame_length {c : Config} {p : Proto} {f : List Byte} (h : ChannelFrame c p f) :
    3 ≤ f.length ∧ f.length ≤ 64 := by
  cases p with
  | crsf => rw [(crsfFrame_bytes h).1]; decide
  | sbus => rw [(sbusFrame_bytes h).1]; decide
  | ibus => rw [(ibusFrame_bytes h).1]; decide
  | ppm | pwm => exact h.elim

/-! The completing byte of a valid channel frame. -/

/-- `u` is `v` after the frame `f` has been accepted. -/
def Accepted (v : State) (f : List Byte) (u : State) : Prop :=
  u = { v with buf := u.buf, fsm := .idle, idx := 0, ch := u.ch, inputLost := false, tValid := v.nowMs, lastStatus := .okCh
               responses := v.responses ++ [⟨false, 0⟩] } ∧
    ∀ i < 16, entry u.ch 0 i = frameChannel v.cfg v.proto f i

/-- The last byte of `f` is due in `v`: the bytes before it are in the buffer. -/
structure LastByteDue (v : State) (f : List Byte) : Prop where
  fsm : v.fsm = .collecting
  idx : v.idx + 1 = f.length
  flen : v.flen = f.length
  buf : ∀ a < v.idx, v.buf.byteAt a = f.getD a 0

/-- With the last byte appended the buffer reads like the frame. -/
theorem LastByteDue.completed {v : State} {f : List Byte} (h : LastByteDue v f) :
    ∃ B : Nat → Byte, (∀ a, B a = if a = v.idx then f.getD v.idx 0 else v.buf.byteAt a) ∧ ∀ a < f.length, B a = f.getD a 0 := by
  refine ⟨fun a => if a = v.idx then f.getD v.idx 0 else v.buf.byteAt a, fun _ => rfl, fun a ha => ?_⟩
  dsimp only
  split
  · next heq => rw [heq]
  · have := h.idx
    exact h.buf a (by omega)

section
variable {v : State} {f : List Byte} (hl : configLegal v.cfg = true) (hp : v.port = .command) (hdue : LastByteDue v f)
include hl hp hdue

theorem crsf_frame_accepted (hproto : v.proto = .crsf) (hframe : ChannelFrame v.cfg .crsf f)
    (htime : (v.nowMs - v.tFrame).toNat ≤ v.cfg.ftCrsf) : ∃ u, exec (.rxb (f.getD v.idx 0)) v = .next u ∧ Accepted v f u := by
  obtain ⟨B, hBv, hB⟩ := hdue.completed
  obtain ⟨hlen, -, hlength, htype, hck⟩ := crsfFrame_bytes hframe
  have hidx := hdue.idx
  have h1 : B 1 = 0x18 := (hB 1 (by omega)).trans hlength
  have h2 : B 2 = 0x16 := (hB 2 (by omega)).trans htype
  obtain ⟨u, hu, heq, -, -, hok⟩ := crsfFrameCompletion v _ B hl hp hproto hdue.fsm htime (by omega)
    (hidx.trans hdue.flen.symm) hBv (by rw [h1]; decide)
  have hcheck : crsfCheckByte v.cfg ((List.range ((B 1).toNat - 1)).map fun k => B (2 + k)) = B ((B 1).toNat + 1) := by
    rw [h1]
    exact (congrArg _ (map_range_eq_take_drop hB (lo := 2) (n := 23) (by omega))).trans
      (hck.trans (hB 25 (by omega)).symm)
  obtain ⟨hstatus, hlost, hvalid, hch⟩ := (hok hcheck).2 ⟨h2, h1⟩
  rw [hstatus, hlost, hvalid] at heq
  refine ⟨u, hu, heq, fun i hi => ?_⟩
  rw [hch i hi, hproto, frameChannel,
    (unpackReadsTwentyTwoBytes B (fun a => f.getD a 0) 3 i).2 hi fun k hk => hB _ (by omega)]

theorem sbus_frame_accepted (hproto : v.proto = .sbus) (hframe : ChannelFrame v.cfg .sbus f)
    (htime : (v.nowMs - v.tFrame).toNat ≤ v.cfg.ftSbus) : ∃ u, exec (.rxb (f.getD v.idx 0)) v = .next u ∧ Accepted v f u := by
  obtain ⟨B, hBv, hB⟩ := hdue.completed
  obtain ⟨hlen, -, hflags, hfoot⟩ := sbusFrame_bytes hframe
  have hidx := hdue.idx
  obtain ⟨u, hu, heq, -, -, -, hok⟩ := sbusFrameCompletion v _ B hl hp hproto hdue.fsm htime (by omega)
    (hidx.trans hdue.flen.symm) hBv
  obtain ⟨hstatus, hlost, hvalid, hch⟩ := hok ((hB 24 (by omega)).trans hfoot) (by rw [hB 23 (by omega), hflags])
  rw [hstatus, hlost, hvalid] at heq
  refine ⟨u, hu, heq, fun i hi => ?_⟩
  rw [hch i hi, hproto, frameChannel,
    (unpackReadsTwentyTwoBytes B (fun a => f.getD a 0) 1 i).2 hi fun k hk => hB _ (by omega)]

theorem ibus_frame_accepted (hproto : v.proto = .ibus) (hframe : ChannelFrame v.cfg .ibus f)
    (htime : (v.nowMs - v.tFrame).toNat ≤ v.cfg.ftIbus) : ∃ u, exec (.rxb (f.getD v.idx 0)) v = .next u ∧ Accepted v f u := by
  obtain ⟨B, hBv, hB⟩ := hdue.completed
  obtain ⟨hlen, -, -, hck⟩ := ibusFrame_bytes hframe
  have hidx := hdue.idx
  obtain ⟨u, hu, heq, -, -, hok⟩ := ibusFrameCompletion v _ B hl hp hproto hdue.fsm htime (by omega)
    (hidx.trans hdue.flen.symm) hBv
  have hbody : (List.range 30).map B = (f.drop 0).take 30 := by
    rw [← map_range_eq_take_drop hB (lo := 0) (n := 30) (by omega)]
    simp
  obtain ⟨hstatus, hlost, hvalid, hch, h14, h15⟩ := hok (by rw [hbody, hck, hB 30 (by omega), hB 31 (by omega)])
  rw [hstatus, hlost, hvalid] at heq
  refine ⟨u, hu, heq, fun i hi => ?_⟩
  rw [hproto, frameChannel]
  by_cases hlive : i < 14
  · rw [if_pos hlive, hch i hlive, ibusRaw_eq, hB _ (by omega), hB _ (by omega)]
  · rw [if_neg hlive, entry_eq_entry _ 0 1 hi]
    obtain rfl | rfl : i = 14 ∨ i = 15 := by omega
    · exact h14
    · exact h15

/-- The last byte of a valid channel frame, within the frame timeout, is accepted. -/
theorem frame_accepted {ft : Nat} (hframe : ChannelFrame v.cfg v.proto f) (hft : frameTimeout v.cfg v.proto = some ft)
    (htime : (v.nowMs - v.tFrame).toNat ≤ ft) : ∃ u, exec (.rxb (f.getD v.idx 0)) v = .next u ∧ Accepted v f u := by
  cases hproto : v.proto with
  | crsf =>
    rw [hproto] at hframe hft
    cases hft
    exact crsf_frame_accepted hl hp hdue hproto hframe htime
  | sbus =>
    rw [hproto] at hframe hft
    cases hft
    exact sbus_frame_accepted hl hp hdue hproto hframe htime
  | ibus =>
    rw [hproto] at hframe hft
    cases hft
    exact ibus_frame_accepted hl hp hdue hproto hframe htime
  | ppm | pwm =>
    rw [hproto] at hframe
    exact hframe.elim
end

/-! The bytes before it. -/

/-- `t` is `s` after the first `k` bytes of the frame `f`. -/
structure Assembled (s : State) (f : List Byte) (times : List Word) (k : Nat) (t : State) : Prop where
  frame : t = { s with buf := t.buf, fsm := .collecting, idx := k, flen := f.length, tFrame := times.headD 0, nowMs := t.nowMs
                       responses := s.responses ++ List.replicate k ⟨false, 0⟩ }
  buf : ∀ a < k, t.buf.byteAt a = f.getD a 0

/-- The conditions under which a frame is received from `Idle`. -/
structure FrameArrives (s : State) (f : List Byte) (times : List Word) (ft : Nat) : Prop where
  legal : configLegal s.cfg = true
  port : s.port = .command
  fsm : s.fsm = .idle
  valid : ChannelFrame s.cfg s.proto f
  timeout : frameTimeout s.cfg s.proto = some ft
  length : times.length = f.length
  inTime : ∀ t ∈ times, (t - times.headD 0).toNat ≤ ft

section
variable {s t : State} {f : List Byte} {times : List Word} {ft k : Nat} (h : FrameArrives s f times ft)
include h

theorem FrameArrives.time_le (hk : k < f.length) : (times.getD k 0 - times.headD 0).toNat ≤ ft := by
  have hk' : k < times.length := h.length ▸ hk
  refine h.inTime _ ?_
  rw [List.getD_eq_getElem _ _ hk']
  exact List.getElem_mem hk'

/-- A byte that does not complete the frame is collected (O38). -/
theorem assembled_succ (ht : Assembled s f times k t) (hk : k + 1 < f.length) :
    ∃ u, exec (.rxb (f.getD k 0)) { t with nowMs := times.getD k 0 } = .next u ∧ Assembled s f times (k + 1) u := by
  obtain ⟨hframe, hbuf⟩ := ht
  have h64 := (channelFrame_length h.valid).2
  have hcfg : t.cfg = s.cfg := by rw [hframe]
  have hproto : t.proto = s.proto := by rw [hframe]
  have htime : (times.getD k 0 - t.tFrame).toNat ≤ ft := by
    rw [hframe]
    exact h.time_le (by omega)
  obtain ⟨hcollect, -⟩ := collectingAppendsOneByte { t with nowMs := times.getD k 0 } (f.getD k 0) ft (hcfg ▸ h.legal)
    (by rw [hframe]; exact h.port) (by rw [hframe]) (by rw [hcfg, hproto]; exact h.timeout) htime
  have hidx : t.idx = k := by rw [hframe]
  have hflen : t.flen = f.length := by rw [hframe]
  obtain ⟨u, hu, heq, hubuf⟩ := hcollect (by dsimp only; omega) (by dsimp only; omega)
  refine ⟨u, hu, ?_, fun a ha => ?_⟩
  · rw [heq, hframe]
    simp [List.replicate_succ']
  · rw [hubuf]
    dsimp only
    rw [hidx]
    split
    · next heq => rw [heq]
    · exact hbuf a (by omega)
/-- The sync byte of an SBUS frame starts collecting (O35). -/
theorem assembled_sbus (hproto : s.proto = .sbus) :
    ∃ t, receive ((f.zip times).take 1) s = .next t ∧ Assembled s f times 1 t := by
  obtain ⟨hl, hp, hfsm, hvalid, -, hlen, -⟩ := h
  have hhead : times.getD 0 0 = times.headD 0 := by cases times <;> rfl
  rw [hproto] at hvalid
  obtain ⟨hflen, h0, -⟩ := sbusFrame_bytes hvalid
  obtain ⟨u, hu, heq, hbuf, -, hnext, -⟩ :=
    syncByteStartsAFrame { s with nowMs := times.getD 0 0 } (f.getD 0 0) hl hp hfsm (.inr (.inl ⟨hproto, h0⟩))
  obtain ⟨huf, hul⟩ := hnext hproto
  rw [huf, hul] at heq
  refine ⟨u, receive_take_succ (k := 0) (by omega) hlen rfl hu, ?_, fun a ha => ?_⟩
  · rw [heq, hflen, hhead]
    rfl
  · obtain rfl : a = 0 := by omega
    rw [hbuf]
    rfl

/-- The sync byte of a CRSF frame and its length byte start collecting (O35, O36). -/
theorem assembled_crsf (hproto : s.proto = .crsf) :
    ∃ t, receive ((f.zip times).take 2) s = .next t ∧ Assembled s f times 2 t := by
  have htime := h.time_le (k := 1) (by have := (channelFrame_length h.valid).1; omega)
  obtain ⟨hl, hp, hfsm, hvalid, hft, hlen, -⟩ := h
  have hhead : times.getD 0 0 = times.headD 0 := by cases times <;> rfl
  rw [hproto] at hvalid hft
  cases hft
  obtain ⟨hflen, h0, h1, -⟩ := crsfFrame_bytes hvalid
  obtain ⟨u, hu, heq, hbuf, hnext, -, -⟩ :=
    syncByteStartsAFrame { s with nowMs := times.getD 0 0 } (f.getD 0 0) hl hp hfsm (.inl ⟨hproto, h0⟩)
  obtain ⟨huf, hul⟩ := hnext hproto
  rw [huf, hul, hhead] at heq
  have hcfg : u.cfg = s.cfg := by rw [heq]
  obtain ⟨hgood, -⟩ := crsfLengthByte { u with nowMs := times.getD 1 0 } (f.getD 1 0) (hcfg ▸ hl) (by rw [heq]; exact hp)
    (by rw [heq]; exact hproto) huf (by rw [heq]; exact htime)
  obtain ⟨v, hv, hveq, hvbuf⟩ := hgood (by rw [h1]; decide) (by rw [h1]; decide)
  refine ⟨v, receive_take_succ (k := 1) (by omega) hlen (receive_take_succ (k := 0) (by omega) hlen rfl hu) hv, ?_,
    fun a ha => ?_⟩
  · rw [hveq, heq, hflen, h1]
    simp [List.replicate_succ]
  · rw [hvbuf, hbuf]
    obtain rfl | rfl : a = 0 ∨ a = 1 := by omega
    · rfl
    · rfl

/-- The two header bytes of an IBUS frame start collecting (O35, O37). -/
theorem assembled_ibus (hproto : s.proto = .ibus) :
    ∃ t, receive ((f.zip times).take 2) s = .next t ∧ Assembled s f times 2 t := by
  have htime := h.time_le (k := 1) (by have := (channelFrame_length h.valid).1; omega)
  obtain ⟨hl, hp, hfsm, hvalid, hft, hlen, -⟩ := h
  have hhead : times.getD 0 0 = times.headD 0 := by cases times <;> rfl
  rw [hproto] at hvalid hft
  cases hft
  obtain ⟨hflen, h0, h1, -⟩ := ibusFrame_bytes hvalid
  obtain ⟨u, hu, heq, hbuf, -, -, hnext⟩ :=
    syncByteStartsAFrame { s with nowMs := times.getD 0 0 } (f.getD 0 0) hl hp hfsm (.inr (.inr ⟨hproto, h0⟩))
  obtain ⟨huf, hul⟩ := hnext hproto
  rw [huf, hul, hhead] at heq
  have hcfg : u.cfg = s.cfg := by rw [heq]
  obtain ⟨hgood, -⟩ := ibusSecondHeaderByte { u with nowMs := times.getD 1 0 } (f.getD 1 0) (hcfg ▸ hl)
    (by rw [heq]; exact hp) (by rw [heq]; exact hproto) huf (by rw [heq]; exact htime)
  obtain ⟨v, hv, hveq, hvbuf⟩ := hgood h1
  refine ⟨v, receive_take_succ (k := 1) (by omega) hlen (receive_take_succ (k := 0) (by omega) hlen rfl hu) hv, ?_,
    fun a ha => ?_⟩
  · rw [hveq, heq, hflen]
    simp [List.replicate_succ]
  · rw [hvbuf, hbuf]
    obtain rfl | rfl : a = 0 ∨ a = 1 := by omega
    · rfl
    · rfl

theorem assembled_start : ∃ k t, k < f.length ∧ receive ((f.zip times).take k) s = .next t ∧ Assembled s f times k t := by
  have hlong := (channelFrame_length h.valid).1
  rcases byteProto_cases (isByteProto_of_frameTimeout h.timeout) with hproto | hproto | hproto
  · obtain ⟨t, ht⟩ := assembled_crsf h hproto
    exact ⟨2, t, by omega, ht⟩
  · obtain ⟨t, ht⟩ := assembled_sbus h hproto
    exact ⟨1, t, by omega, ht⟩
  · obtain ⟨t, ht⟩ := assembled_ibus h hproto
    exact ⟨2, t, by omega, ht⟩

/-- All bytes but the last. -/
theorem assembled_all_but_last :
    ∃ t, receive ((f.zip times).take (f.length - 1)) s = .next t ∧ Assembled s f times (f.length - 1) t := by
  obtain ⟨k, t, hk, hrun, ht⟩ := assembled_start h
  have hgo : ∀ m, k ≤ m → m < f.length → ∃ t, receive ((f.zip times).take m) s = .next t ∧ Assembled s f times m t := by
    intro m hm
    induction m, hm using Nat.le_induction with
    | base => exact fun _ => ⟨t, hrun, ht⟩
    | succ m _ ih =>
      intro hlt
      obtain ⟨t, hrun, ht⟩ := ih (by omega)
      obtain ⟨u, hu, hasm⟩ := assembled_succ h ht hlt
      exact ⟨u, receive_take_succ (by omega) h.length hrun hu, hasm⟩
  exact hgo _ (by omega) (by omega)

/-- The last byte completes the frame, which is accepted. -/
theorem frame_received :
    ∃ t, receive (f.zip times) s = .next t ∧
      t = { s with buf := t.buf, idx := 0, flen := f.length, ch := t.ch, tFrame := times.headD 0,
                   tValid := times.getLastD 0, inputLost := false, lastStatus := .okCh, nowMs := times.getLastD 0,
                   responses := s.responses ++ List.replicate f.length ⟨false, 0⟩ } ∧
      ∀ i < 16, entry t.ch 0 i = frameChannel s.cfg s.proto f i := by
  obtain ⟨t, hrun, hframe, hbuf⟩ := assembled_all_but_last h
  have hlong := (channelFrame_length h.valid).1
  obtain ⟨n, hn⟩ : ∃ n, f.length = n + 1 := ⟨f.length - 1, by omega⟩
  rw [hn, Nat.add_sub_cancel] at hrun hframe hbuf
  have hlast : times.getD n 0 = times.getLastD 0 := by
    rw [List.getLastD_eq_getLast?, List.getLast?_eq_getElem?, List.getD_eq_getElem?_getD, h.length, hn, Nat.add_sub_cancel]
  have hcfg : t.cfg = s.cfg := by rw [hframe]
  have hproto : t.proto = s.proto := by rw [hframe]
  have hidx : t.idx = n := by rw [hframe]
  have hdue : LastByteDue { t with nowMs := times.getD n 0 } f :=
    ⟨by rw [hframe], by dsimp only; omega, by rw [hframe, hn], fun a ha => hbuf a (hidx ▸ ha)⟩
  have htime : (times.getD n 0 - t.tFrame).toNat ≤ ft := by
    rw [hframe]
    exact h.time_le (by omega)
  obtain ⟨u, hu, heq, hch⟩ := frame_accepted (hcfg ▸ h.legal) (by rw [hframe]; exact h.port) hdue
    (by rw [hcfg, hproto]; exact h.valid) (by rw [hcfg, hproto]; exact h.timeout) htime
  dsimp only at hu heq hch
  have hbyte : f.getD t.idx 0 = f.getD n 0 := by rw [hidx]
  rw [hbyte] at hu
  rw [hcfg, hproto] at hch
  have hall := receive_take_succ (by omega) h.length hrun hu
  rw [List.take_of_length_le (by simp [h.length, hn])] at hall
  refine ⟨u, hall, ?_, hch⟩
  rw [heq, hframe, hlast, hn, h.fsm]
  simp [List.replicate_succ']
end

/-- Settles O42: the bytes before the last assemble the frame, and the last completes it. -/
theorem wholeFrameIsDecoded : Obligations.WholeFrameIsDecoded := by
  intro s f times ft hl hp hfsm hvalid hft hlen htimes
  exact frame_received ⟨hl, hp, hfsm, hvalid, hft, hlen, htimes⟩

/-! Resynchronization (42_byte_decoders.md rules R155 to R157, section 5). -/

section
variable {s : State} {b : Byte} {ft : Nat} (hl : configLegal s.cfg = true) (hp : s.port = .command) (hf : s.fsm = .haveSync)
  (hft : frameTimeout s.cfg s.proto = some ft)
include hl hp hf hft

/-- A sync byte where the second byte of a frame is due acts as it does in `Idle`: past the timeout by the watchdog (O33),
within it because it is a bad length or a bad header (O36, O37). -/
theorem exec_syncByte_in_haveSync (hb : s.proto = .crsf ∧ b = 0xC8 ∨ s.proto = .ibus ∧ b = 0x20) :
    ∃ c, exec (.rxb b) s = exec (.rxb b) { s with lastStatus := c, fsm := .idle, idx := 0 } := by
  by_cases hlate : ft < (s.nowMs - s.tFrame).toNat
  · obtain ⟨hforced, -⟩ := midFrameWatchdogForcesIdle s b ft hp hft
    obtain ⟨hrxb, -⟩ := hforced (by rw [hf]; decide) hlate
    exact ⟨.timeout, hrxb⟩
  · have hintime := Nat.not_lt.mp hlate
    rcases hb with ⟨hproto, hb⟩ | ⟨hproto, hb⟩
    · rw [hproto] at hft
      cases hft
      obtain ⟨-, hbad⟩ := crsfLengthByte s b hl hp hproto hf hintime
      exact ⟨.badLen, hbad (.inr (by rw [hb]; decide))⟩
    · rw [hproto] at hft
      cases hft
      obtain ⟨-, hbad⟩ := ibusSecondHeaderByte s b hl hp hproto hf hintime
      exact ⟨.badHdr, hbad (by rw [hb]; decide)⟩
end

section
variable {s : State} {f : List Byte} {times : List Word} {ft : Nat} (h : FrameArrives s f times ft) {x : Byte} (tx : Word)
include h

/-- A stray byte that is no sync byte is discarded (O34). -/
theorem discarded_byte_leaves_idle
    (hx : s.proto = .crsf ∧ x ≠ 0xC8 ∨ s.proto = .sbus ∧ x ≠ 0x0F ∨ s.proto = .ibus ∧ x ≠ 0x20) :
    ∃ s1, FrameArrives s1 f times ft ∧ s1.cfg = s.cfg ∧ s1.proto = s.proto ∧
      receive ((x, tx) :: f.zip times) s = receive (f.zip times) s1 := by
  have hexec := idleDiscardsOtherBytes { s with nowMs := tx } x h.legal h.port h.fsm hx
  refine ⟨_, ?_, ?_, ?_, receive_of_exec hexec _⟩
  · exact { h with }
  · rfl
  · rfl

/-- After a stray sync byte the sync byte of the frame comes where a second byte is due, and acts as in `Idle`. -/
theorem syncByte_leaves_idle (hx : s.proto = .crsf ∧ x = 0xC8 ∨ s.proto = .ibus ∧ x = 0x20) :
    ∃ s1, FrameArrives s1 f times ft ∧ s1.cfg = s.cfg ∧ s1.proto = s.proto ∧
      receive ((x, tx) :: f.zip times) s = receive (f.zip times) s1 := by
  have hx' : s.proto = .crsf ∧ x = 0xC8 ∨ s.proto = .sbus ∧ x = 0x0F ∨ s.proto = .ibus ∧ x = 0x20 := hx.imp_right .inr
  obtain ⟨u, hu, heq, -, hcrsf, -, hibus⟩ := syncByteStartsAFrame { s with nowMs := tx } x h.legal h.port h.fsm hx'
  have huf : u.fsm = .haveSync := by
    rcases hx with ⟨hproto, -⟩ | ⟨hproto, -⟩
    · exact (hcrsf hproto).1
    · exact (hibus hproto).1
  have hcfg : u.cfg = s.cfg := by rw [heq]
  have hproto : u.proto = s.proto := by rw [heq]
  have hport : u.port = .command := by
    rw [heq]
    exact h.port
  have hlong := (channelFrame_length h.valid).1
  obtain ⟨b, f', rfl⟩ := List.exists_cons_of_length_pos (l := f) (by omega)
  obtain ⟨now, times', rfl⟩ := List.exists_cons_of_length_pos (l := times) (by rw [h.length]; omega)
  have hb : u.proto = .crsf ∧ b = 0xC8 ∨ u.proto = .ibus ∧ b = 0x20 := by
    have hvalid := h.valid
    rw [hproto]
    rcases hx with ⟨hp, -⟩ | ⟨hp, -⟩ <;> rw [hp] at hvalid
    · exact .inl ⟨hp, (crsfFrame_bytes hvalid).2.1⟩
    · exact .inr ⟨hp, (ibusFrame_bytes hvalid).2.1⟩
  obtain ⟨c, hc⟩ := exec_syncByte_in_haveSync (s := { u with nowMs := now }) (ft := ft) (hcfg ▸ h.legal) hport huf
    (by rw [hcfg, hproto]; exact h.timeout) hb
  refine ⟨{ u with lastStatus := c, fsm := .idle, idx := 0 }, ?_, hcfg, hproto, ?_⟩
  · exact { h with legal := hcfg ▸ h.legal, port := hport, fsm := rfl, valid := by rw [hcfg, hproto]; exact h.valid
                   timeout := by rw [hcfg, hproto]; exact h.timeout }
  · rw [receive_of_exec hu]
    exact receive_congr hc _

/-- After a stray byte the frame is received as from some `Idle` state of the same block. -/
theorem stray_byte_leaves_idle (hx : s.proto = .sbus → x ≠ 0x0F) :
    ∃ s1, FrameArrives s1 f times ft ∧ s1.cfg = s.cfg ∧ s1.proto = s.proto ∧
      receive ((x, tx) :: f.zip times) s = receive (f.zip times) s1 := by
  by_cases hsync : s.proto = .crsf ∧ x = 0xC8 ∨ s.proto = .ibus ∧ x = 0x20
  · exact syncByte_leaves_idle h tx hsync
  · refine discarded_byte_leaves_idle h tx ?_
    have hbyte := byteProto_cases (isByteProto_of_frameTimeout h.timeout)
    tauto
end

/-- Settles O43: the block receives the frame as from `Idle`, where O42 has it. -/
theorem frameAfterAStrayByteIsDecoded : Obligations.FrameAfterAStrayByteIsDecoded := by
  intro s x tx f times ft hl hp hfsm hvalid hx hft hlen htimes
  obtain ⟨s1, h1, hcfg, hproto, hrun⟩ := stray_byte_leaves_idle ⟨hl, hp, hfsm, hvalid, hft, hlen, htimes⟩ tx hx
  obtain ⟨t, ht, heq, hch⟩ := frame_received h1
  rw [hcfg, hproto] at hch
  refine ⟨t, hrun.trans ht, ?_, ?_, ?_, ?_, ?_, hch⟩ <;> rw [heq]
  exact h1.fsm

end Sys2Proof.Machine

/-! Noninterference (40_checksum.md section 2, 60_exceptions.md sections 2 and 4): the decoders read neither `LAST_STATUS` nor the
fields outside them, so that other values there change nothing else. -/

namespace Sys2Proof.Machine

/-- `s` with the fields outside the decoders as `o` has them, and `c` for `LAST_STATUS`. -/
def State.patch (s o : State) (c : Status) : State :=
  { s with
    arrivals := o.arrivals, lastStatus := c, accXor := o.accXor, accSub := o.accSub, accCrc := o.accCrc, port := o.port
    nowMs := o.nowMs, edgeTsUs := o.edgeTsUs, rst := o.rst, responses := o.responses }

/-- `f` reads none of the fields of `State.patch`, and writes none but `LAST_STATUS`. -/
def Blind (f : State → State) : Prop :=
  ∀ s o c, ∃ d, f (s.patch o c) = (f s).patch o d ∧ (c = s.lastStatus → d = (f s).lastStatus)

/-- The same of an operation that can stop. -/
def BlindOutcome (f : State → Host.Outcome State Fault Refusal) : Prop :=
  ∀ s t o c, f s = .next t → ∃ d, f (s.patch o c) = .next (t.patch o d) ∧ (c = s.lastStatus → d = t.lastStatus)

section
variable {f g : State → State} {F G : State → Host.Outcome State Fault Refusal}

/-! Rules for composed operations. -/

theorem Blind.id : Blind fun s => s := fun _ _ c => ⟨c, rfl, fun h => h⟩

theorem Blind.comp (hg : Blind g) (hf : Blind f) : Blind fun s => g (f s) := fun s o c => by
  obtain ⟨d, hd, hsame⟩ := hf s o c
  obtain ⟨e, he, hsame'⟩ := hg (f s) o d
  exact ⟨e, (congrArg g hd).trans he, fun h => hsame' (hsame h)⟩

/-- A test of fields that `State.patch` keeps. -/
theorem Blind.ite {p : State → Prop} [DecidablePred p] (hp : ∀ s o c, p (s.patch o c) ↔ p s) (hf : Blind f) (hg : Blind g) :
    Blind fun s => if p s then f s else g s := fun s o c => by
  by_cases h : p s
  · simp only [if_pos h, if_pos ((hp s o c).mpr h)]
    exact hf s o c
  · simp only [if_neg h, if_neg fun h' => h ((hp s o c).mp h')]
    exact hg s o c

/-- The live protocol decides. -/
theorem Blind.of_proto (h : ∀ p, ∃ g, Blind g ∧ ∀ u : State, u.proto = p → f u = g u) : Blind f := fun s o c => by
  obtain ⟨g, hg, heq⟩ := h s.proto
  rw [heq s rfl, heq (s.patch o c) rfl]
  exact hg s o c

theorem Blind.forChannels {body : Nat → State → State} (h : ∀ k, Blind (body k)) (n : Nat) :
    Blind (forChannels n body) := by
  induction n with
  | zero => exact Blind.id
  | succ n ih => exact (h n).comp ih

theorem Blind.next (hf : Blind f) : BlindOutcome fun s => .next (f s) := fun s t o c h => by
  obtain ⟨d, hd, hsame⟩ := hf s o c
  rw [← next_injective h]
  exact ⟨d, congrArg _ hd, hsame⟩

theorem BlindOutcome.fault (r : Fault) : BlindOutcome fun _ => .fault r := fun _ _ _ _ h => by cases h

theorem BlindOutcome.comp (hF : BlindOutcome F) (hf : Blind f) : BlindOutcome fun s => F (f s) := fun s t o c h => by
  obtain ⟨d, hd, hsame⟩ := hf s o c
  obtain ⟨e, he, hsame'⟩ := hF (f s) t o d h
  exact ⟨e, (congrArg F hd).trans he, fun h => hsame' (hsame h)⟩

theorem BlindOutcome.ite {p : State → Prop} [DecidablePred p] (hp : ∀ s o c, p (s.patch o c) ↔ p s) (hF : BlindOutcome F)
    (hG : BlindOutcome G) : BlindOutcome fun s => if p s then F s else G s := fun s t o c h => by
  by_cases hs : p s
  · simp only [if_pos hs, if_pos ((hp s o c).mpr hs)] at h ⊢
    exact hF s t o c h
  · simp only [if_neg hs, if_neg fun h' => hs ((hp s o c).mp h')] at h ⊢
    exact hG s t o c h

theorem BlindOutcome.of_proto (h : ∀ p, ∃ G, BlindOutcome G ∧ ∀ u : State, u.proto = p → F u = G u) : BlindOutcome F :=
  fun s t o c ht => by
    obtain ⟨G, hG, heq⟩ := h s.proto
    rw [heq s rfl] at ht
    rw [heq (s.patch o c) rfl]
    exact hG s t o c ht

/-- The fields outside the decoders stay as they are. -/
theorem BlindOutcome.keeps_outside (hF : BlindOutcome F) {s t : State} (h : F s = .next t) : t.patch s t.lastStatus = t := by
  obtain ⟨d, hd, hsame⟩ := hF s t s s.lastStatus h
  rw [← hsame rfl]
  exact next_injective (hd.symm.trans h)
end

/-! The shared updates. -/

theorem blind_toIdle : Blind State.toIdle := fun _ _ c => ⟨c, rfl, id⟩

theorem blind_withStatus (x : Status) : Blind (·.withStatus x) := fun _ _ _ => ⟨x, rfl, fun _ => rfl⟩

theorem blind_loseLink : Blind State.loseLink := fun _ _ c => ⟨c, rfl, id⟩

/-! RXB. -/

section
variable (b : Byte) (now : Word)

theorem frameWatchdog_eq (s : State) :
    frameWatchdog now s =
      if s.fsm ≠ .idle ∧ (frameTimeout s.cfg s.proto).any (expired now s.tFrame) = true then s.toIdle.withStatus .timeout
      else s := by
  unfold frameWatchdog
  cases frameTimeout s.cfg s.proto <;> simp

theorem blind_frameWatchdog : Blind (frameWatchdog now) := by
  rw [funext (frameWatchdog_eq now)]
  exact .ite (fun _ _ _ => Iff.rfl) ((blind_withStatus .timeout).comp blind_toIdle) .id

theorem blind_linkWatchdog : Blind (linkWatchdog now) := .ite (fun _ _ _ => Iff.rfl) blind_loseLink .id

theorem blind_idleByte : Blind (idleByte b now) := by
  refine .of_proto fun p => ?_
  cases p with
  | crsf =>
    refine ⟨_, ?_, fun u hu => idleByte_crsf hu b now⟩
    exact .ite (fun _ _ _ => Iff.rfl) (fun _ _ c => ⟨c, rfl, id⟩) .id
  | sbus =>
    refine ⟨_, ?_, fun u hu => idleByte_sbus hu b now⟩
    exact .ite (fun _ _ _ => Iff.rfl) (fun _ _ c => ⟨c, rfl, id⟩) .id
  | ibus =>
    refine ⟨_, ?_, fun u hu => idleByte_ibus hu b now⟩
    exact .ite (fun _ _ _ => Iff.rfl) (fun _ _ c => ⟨c, rfl, id⟩) .id
  | ppm | pwm => exact ⟨_, .id, fun u hu => by simp [idleByte, hu]⟩

theorem blind_lengthByte : Blind (lengthByte b now) :=
  .ite (fun _ _ _ => Iff.rfl) (fun _ _ c => ⟨c, rfl, id⟩)
    ((blind_idleByte b now).comp (blind_toIdle.comp (blind_withStatus .badLen)))

theorem blind_headerByte2 : Blind (headerByte2 b now) :=
  .ite (fun _ _ _ => Iff.rfl) (fun _ _ c => ⟨c, rfl, id⟩)
    ((blind_idleByte b now).comp (blind_toIdle.comp (blind_withStatus .badHdr)))

theorem blind_completeCrsf : Blind (completeCrsf now) :=
  .ite (fun _ _ _ => Iff.rfl) (blind_withStatus .badCk)
    (.ite (fun _ _ _ => Iff.rfl) (fun _ _ _ => ⟨.okCh, rfl, fun _ => rfl⟩) (blind_withStatus .okIgn))

theorem blind_completeSbus : Blind (completeSbus now) :=
  .ite (fun _ _ _ => Iff.rfl) (blind_withStatus .badFoot)
    (.ite (fun _ _ _ => Iff.rfl) ((blind_withStatus .failsafe).comp blind_loseLink) fun _ _ _ => ⟨.okCh, rfl, fun _ => rfl⟩)

theorem blind_completeIbus : Blind (completeIbus now) := by
  rw [funext (completeIbus_eq now)]
  refine .ite (fun s o c => ?_) (blind_withStatus .badCk) fun _ _ _ => ⟨.okCh, rfl, fun _ => rfl⟩
  have hbuf : (s.patch o c).buf = s.buf := rfl
  rw [hbuf]

theorem blind_complete : BlindOutcome (complete now) := by
  refine .of_proto fun p => ?_
  cases p with
  | crsf =>
    refine ⟨fun s => if (s.buf.byteAt 1).toNat + 1 < s.cfg.fixed.frameBuf then .next (completeCrsf now s).toIdle
      else .fault .bufferRange, ?_, fun u hu => by simp [complete, hu]⟩
    exact .ite (fun _ _ _ => Iff.rfl) (blind_toIdle.comp (blind_completeCrsf now)).next (.fault _)
  | sbus => exact ⟨_, (blind_toIdle.comp (blind_completeSbus now)).next, fun u hu => complete_sbus hu⟩
  | ibus => exact ⟨_, (blind_toIdle.comp (blind_completeIbus now)).next, fun u hu => complete_ibus hu⟩
  | ppm | pwm => exact ⟨_, blind_toIdle.next, fun u hu => by simp [complete, hu]⟩

theorem blind_appendByte : Blind (·.appendByte b) := fun _ _ c => ⟨c, rfl, id⟩

theorem blind_collectByte : BlindOutcome (collectByte b now) :=
  .ite (fun _ _ _ => Iff.rfl) (blind_toIdle.comp (blind_withStatus .overflow)).next
    (.ite (fun _ _ _ => Iff.rfl) ((blind_complete now).comp (blind_appendByte b)) (blind_appendByte b).next)

theorem blind_examineByte : BlindOutcome (examineByte b now) := fun s t o c h => by
  cases hf : s.fsm with
  | idle =>
    rw [examineByte_idle hf] at h
    rw [examineByte_idle (s := s.patch o c) hf]
    exact (blind_idleByte b now).next s t o c h
  | haveSync =>
    by_cases hp : s.proto = .crsf
    · rw [examineByte_lengthByte hf hp] at h
      rw [examineByte_lengthByte (s := s.patch o c) hf hp]
      exact (blind_lengthByte b now).next s t o c h
    · rw [examineByte_headerByte2 hf hp] at h
      rw [examineByte_headerByte2 (s := s.patch o c) hf hp]
      exact (blind_headerByte2 b now).next s t o c h
  | collecting =>
    rw [examineByte_collecting hf] at h
    rw [examineByte_collecting (s := s.patch o c) hf]
    exact blind_collectByte b now s t o c h

theorem blind_receiveByte : BlindOutcome (receiveByte b now) :=
  .ite (fun _ _ _ => Iff.rfl) ((blind_examineByte b now).comp (blind_frameWatchdog now)) Blind.id.next
end

/-! UPD. -/

section
variable (now : Word) (k : Nat)

theorem blind_pwmConsume : Blind (pwmConsume now k) :=
  .ite (fun _ _ _ => Iff.rfl)
    (.ite (fun _ _ _ => Iff.rfl) (fun _ _ c => ⟨c, rfl, id⟩) (fun _ _ c => ⟨c, rfl, id⟩)) .id

theorem blind_pwmTimeout : Blind (pwmTimeout now k) := .ite (fun _ _ _ => Iff.rfl) (fun _ _ c => ⟨c, rfl, id⟩) .id

theorem blind_pwmUpdate : Blind (pwmUpdate now) := fun s o c =>
  Blind.forChannels (fun k => (blind_pwmTimeout now k).comp (blind_pwmConsume now k)) s.cfg.nPwm s o c

theorem blind_ppmConsume : Blind (ppmConsume k) :=
  .ite (fun _ _ _ => Iff.rfl)
    (.ite (fun _ _ _ => Iff.rfl) (fun _ _ c => ⟨c, rfl, id⟩) (fun _ _ c => ⟨c, rfl, id⟩)) .id

theorem blind_ppmTakeFrame : Blind (ppmTakeFrame now) := .ite (fun _ _ _ => Iff.rfl) (fun _ _ c => ⟨c, rfl, id⟩) .id

theorem blind_ppmUpdate : Blind (ppmUpdate now) := fun s o c =>
  ((blind_linkWatchdog now).comp ((Blind.forChannels blind_ppmConsume s.cfg.nPpm).comp (blind_ppmTakeFrame now))) s o c

theorem blind_updateTick : Blind (updateTick now) := by
  refine .of_proto fun p => ?_
  rcases proto_cases p with hb | rfl | rfl
  · exact ⟨_, (blind_linkWatchdog now).comp (blind_frameWatchdog now), fun u hu => updateTick_byte (hu ▸ hb)⟩
  · exact ⟨_, blind_ppmUpdate now, fun u hu => updateTick_ppm now hu⟩
  · exact ⟨_, blind_pwmUpdate now, fun u hu => updateTick_pwm now hu⟩
end

/-! EDGE. -/

section
variable (ch : Nat) (lvl : Level) (ts : Word)

theorem blind_pwmFall : Blind (pwmFall ch ts) := fun s o c => by
  cases hv : entry s.riseValid false ch with
  | false =>
    rw [pwmFall_without_rise hv, pwmFall_without_rise (s := s.patch o c) hv]
    exact ⟨c, rfl, id⟩
  | true =>
    rw [pwmFall_with_rise hv, pwmFall_with_rise (s := s.patch o c) hv]
    exact ⟨c, rfl, id⟩

theorem blind_pwmEdge : Blind (pwmEdge ch lvl ts) := by
  cases lvl with
  | rising => exact .ite (fun _ _ _ => Iff.rfl) (fun _ _ c => ⟨c, rfl, id⟩) .id
  | falling => exact .ite (fun _ _ _ => Iff.rfl) (blind_pwmFall ch ts) .id

theorem blind_ppmSync : Blind ppmSync :=
  Blind.comp (g := fun s => { s with ppmSynced := true, ppmIdx := 0 }) (fun _ _ c => ⟨c, rfl, id⟩)
    (.ite (fun _ _ _ => Iff.rfl) (fun _ _ _ => ⟨.okCh, rfl, fun _ => rfl⟩)
      (.ite (fun _ _ _ => Iff.rfl) (blind_withStatus .badLen) .id))

theorem blind_ppmFill (d : Nat) :
    Blind fun s => if d ≠ 0 then { s with slot := setEntry s.slot s.ppmIdx (BitVec.ofNat 16 d) } else s :=
  .ite (fun _ _ _ => Iff.rfl) (fun _ _ c => ⟨c, rfl, id⟩) .id

theorem blind_ppmInterval (d : Nat) : Blind (ppmInterval d) :=
  .ite (fun _ _ _ => Iff.rfl)
    (.ite (fun _ _ _ => Iff.rfl)
      (Blind.comp (g := fun s => { s with ppmIdx := s.ppmIdx + 1 }) (fun _ _ c => ⟨c, rfl, id⟩) (blind_ppmFill d))
      (.ite (fun _ _ _ => Iff.rfl) (fun _ _ _ => ⟨.overflow, rfl, fun _ => rfl⟩) .id)) .id

theorem blind_ppmRise : Blind (ppmRise ts) :=
  Blind.comp (g := fun s => { s with ppmPrev := ts, ppmHavePrev := true }) (fun _ _ c => ⟨c, rfl, id⟩)
    (.ite (fun _ _ _ => Iff.rfl)
      (.ite (fun _ _ _ => Iff.rfl) blind_ppmSync fun s o c => blind_ppmInterval (elapsed ts s.ppmPrev) s o c) .id)

theorem blind_ppmEdge : Blind (ppmEdge ch lvl ts) := by
  cases lvl with
  | rising => exact .ite (fun _ _ _ => Iff.rfl) (blind_ppmRise ts) .id
  | falling => exact .id

theorem blind_captureEdge : Blind (captureEdge ch lvl ts) := by
  refine .of_proto fun p => ?_
  rcases proto_cases p with hb | rfl | rfl
  · exact ⟨_, .id, fun u hu => captureEdge_byte ch lvl ts (hu ▸ hb)⟩
  · exact ⟨_, blind_ppmEdge ch lvl ts, fun u hu => captureEdge_ppm ch lvl ts hu⟩
  · exact ⟨_, blind_pwmEdge ch lvl ts, fun u hu => captureEdge_pwm ch lvl ts hu⟩
end

/-- The effect of a word on the edge port at time `ts`: EDGE, or nothing (30_encoding.md rule R94). -/
def edgeEffect (i : Instr) (ts : Word) (s : State) : State :=
  match i with
  | .edge ch lvl => captureEdge ch lvl ts s
  | _ => s

section
variable {s : State} (i : Instr) (ts : Word)

theorem exec_edgePort (hp : s.port = .edge) : exec i s = .next (edgeEffect i s.edgeTsUs s) := by
  cases i with
  | edge ch lvl => exact exec_edge ch lvl hp
  | _ => exact onCommandPort_edge hp

theorem blind_edgeEffect : Blind (edgeEffect i ts) := by
  cases i with
  | edge ch lvl => exact blind_captureEdge ch lvl ts
  | _ => exact .id

theorem edgeEffect_byte (h : isByteProto s.proto = true) : edgeEffect i ts s = s := by
  cases i with
  | edge ch lvl => exact captureEdge_byte ch lvl ts h
  | _ => rfl

/-- Only PPM edges have a status. -/
theorem edgeEffect_lastStatus (h : s.proto ≠ .ppm) : (edgeEffect i ts s).lastStatus = s.lastStatus := by
  cases i with
  | edge ch lvl =>
    rcases proto_cases s.proto with hp | hp | hp
    · exact congrArg State.lastStatus (captureEdge_byte ch lvl ts hp)
    · exact absurd hp h
    · show (captureEdge ch lvl ts s).lastStatus = _
      rw [captureEdge_pwm ch lvl ts hp, pwmEdge_frame]
  | _ => rfl
end

/-! The transactions of the command port that touch no decoder. -/

/-- Every transaction but RXB, UPD and SEL of a protocol. -/
def LeavesDecoders : Instr → Prop
  | .rxb _ | .upd | .sel (.proto _) => False
  | _ => True

/-- The checksum units after a transaction. -/
def State.fed (s : State) : Instr → State
  | .cki .xor => { s with accXor := 0x00 }
  | .cki .sub16 => { s with accSub := 0xFFFF }
  | .cki .crc8 => { s with accCrc := 0x00 }
  | .ckf .xor b => { s with accXor := xorStep s.accXor b }
  | .ckf .sub16 b => { s with accSub := subStep s.accSub b }
  | .ckf .crc8 b => { s with accCrc := crcStep s.accCrc b }
  | _ => s

/-- What a transaction that leaves the decoders answers; RXB and UPD answer as NOP does. -/
def State.answer (s : State) : Instr → Response
  | .nop | .rxb _ | .upd => ⟨false, 0⟩
  | .cki u | .ckf u _ => ⟨u == .reserved, 0⟩
  | .ckr u => ⟨u == .reserved, s.accData u⟩
  | .rdch k => ⟨false, if k < nChannels s.cfg s.proto then entry s.ch 0 k else 0⟩
  | .rdflt .reserved => ⟨true, 0⟩
  | .rdflt q => ⟨false, bitData (s.queryFaulted q)⟩
  | .rdst => ⟨false, s.statusWord⟩
  | _ => ⟨true, 0⟩

/-- The state after a transaction that leaves the decoders. -/
def State.answered (s : State) (i : Instr) : State := { s.fed i with responses := s.responses ++ [s.answer i] }

/-- The fields a response is made of, LAST_STATUS and the checksum units apart. -/
def SameReadout (s u : State) : Prop :=
  u.cfg = s.cfg ∧ u.proto = s.proto ∧ u.fsm = s.fsm ∧ u.ch = s.ch ∧ u.inputLost = s.inputLost ∧ u.chFault = s.chFault

def SameAccumulators (s u : State) : Prop := u.accXor = s.accXor ∧ u.accSub = s.accSub ∧ u.accCrc = s.accCrc

section
variable {s u : State} {i : Instr}

theorem exec_leavesDecoders (hp : s.port = .command) (hi : LeavesDecoders i) : exec i s = .next (s.answered i) := by
  cases i with
  | nop => exact exec_nop hp
  | rxb b | upd => exact hi.elim
  | sel p =>
    cases p with
    | proto p => exact hi.elim
    | reserved code => exact exec_refused hp trivial
  | cki k | ckf k b | ckr k => cases k <;> exact onCommandPort_command hp
  | rdch k => exact exec_rdch hp k
  | rdflt q => cases q <;> exact onCommandPort_command hp
  | rdst => exact exec_rdst hp
  | edge | reservedB | reservedC | reservedD | reservedE | reservedF => exact exec_refused hp trivial

theorem fed_frame (s : State) (i : Instr) :
    s.fed i = { s with accXor := (s.fed i).accXor, accSub := (s.fed i).accSub, accCrc := (s.fed i).accCrc } := by
  unfold State.fed
  split <;> rfl

theorem fed_congr (h : SameAccumulators s u) : SameAccumulators (s.fed i) (u.fed i) := by
  obtain ⟨hxor, hsub, hcrc⟩ := h
  unfold State.fed SameAccumulators
  split <;> simp [hxor, hsub, hcrc]

theorem queryFaulted_congr (h : SameReadout s u) (q : FaultQuery) : u.queryFaulted q = s.queryFaulted q := by
  obtain ⟨hcfg, hproto, -, -, hlost, hfault⟩ := h
  have hfaultOf : u.faultOf = s.faultOf := funext fun k => by simp [State.faultOf, hfault]
  cases q with
  | all => simp [State.queryFaulted, State.linkLost, State.pwmAllFaulted, hfaultOf, hcfg, hproto, hlost]
  | any => simp [State.queryFaulted, State.anyFaulted, State.pwmAnyFaulted, hfaultOf, hcfg, hproto, hlost]
  | channel k => simp [State.queryFaulted, State.channelFaulted, hfaultOf, hcfg, hproto, hlost]
  | reserved => rfl

/-- STATUS is made of LAST_STATUS, the fault of mode ALL, FSM and PROTO (rule R248). -/
theorem statusWord_congr (h : SameReadout s u) (hstatus : u.lastStatus = s.lastStatus) : u.statusWord = s.statusWord := by
  have hlost : u.linkLost = s.linkLost := queryFaulted_congr h .all
  obtain ⟨-, hproto, hfsm, -⟩ := h
  simp [State.statusWord, hproto, hfsm, hlost, hstatus]

theorem answer_congr (h : SameReadout s u) (hacc : (∃ k, i = .ckr k) → SameAccumulators s u)
    (hstatus : i = .rdst → u.lastStatus = s.lastStatus) : u.answer i = s.answer i := by
  cases i with
  | ckr k =>
    obtain ⟨hxor, hsub, hcrc⟩ := hacc ⟨k, rfl⟩
    cases k <;> simp [State.answer, State.accData, hxor, hsub, hcrc]
  | rdch k =>
    obtain ⟨hcfg, hproto, -, hch, -⟩ := h
    simp [State.answer, hcfg, hproto, hch]
  | rdflt q => cases q <;> simp only [State.answer, queryFaulted_congr h]
  | rdst => simp only [State.answer, statusWord_congr h (hstatus rfl)]
  | _ => rfl
end

/-! The same transaction in two states that differ outside the decoders. -/

/-- `u` differs from `s` in `LAST_STATUS` and outside the decoders only. -/
def SameDecoders (s u : State) : Prop := u = s.patch u u.lastStatus

/-- The transaction that takes `s` to `t` takes `u` to `t'` with the same effect. -/
def SameEffect (s u t t' : State) : Prop :=
  SameDecoders t t' ∧ t'.responses = t.responses ∧ (u.lastStatus = s.lastStatus → t'.lastStatus = t.lastStatus) ∧
    (SameAccumulators s u → SameAccumulators t t')

section
variable {s u t : State} {i : Instr} {F : State → Host.Outcome State Fault Refusal}

theorem SameDecoders.readout (h : SameDecoders s u) : SameReadout s u := by
  rw [SameReadout, h]
  exact ⟨rfl, rfl, rfl, rfl, rfl, rfl⟩

theorem SameDecoders.respond (h : SameDecoders s u) (err : Bool) (data : Half) :
    SameDecoders (s.respond err data) (u.respond err data) :=
  congrArg (fun v : State => v.respond err data) h

theorem BlindOutcome.sameEffect (hF : BlindOutcome F) (h : SameDecoders s u) (hresp : u.responses = s.responses)
    (ht : F s = .next t) : ∃ t', F u = .next t' ∧ SameEffect s u t t' := by
  have hkept := hF.keeps_outside ht
  obtain ⟨d, hd, hstatus⟩ := hF s t u u.lastStatus ht
  refine ⟨t.patch u d, (congrArg F h).trans hd, rfl, ?_, hstatus, ?_⟩
  · rw [← hkept]
    exact hresp
  · intro hacc
    rw [← hkept]
    exact hacc

theorem answered_sameEffect (h : SameDecoders s u) (hresp : u.responses = s.responses)
    (hacc : (∃ k, i = .ckr k) → SameAccumulators s u) (hstatus : i = .rdst → u.lastStatus = s.lastStatus) :
    SameEffect s u (s.answered i) (u.answered i) := by
  have hanswer := answer_congr h.readout hacc hstatus
  refine ⟨?_, ?_, ?_, fun hsame => fed_congr (i := i) hsame⟩
  · rw [SameDecoders, State.answered, State.answered, fed_frame u, fed_frame s]
    exact congrArg (fun v : State => { v with
      accXor := (u.fed i).accXor, accSub := (u.fed i).accSub, accCrc := (u.fed i).accCrc
      responses := u.responses ++ [u.answer i] }) h
  · rw [State.answered, State.answered, hresp, hanswer]
  · rw [State.answered, State.answered, fed_frame u, fed_frame s]
    exact id

/-- RXB, UPD and SEL of a protocol answer and then work on the decoders. -/
theorem exec_decodes (hi : ¬ LeavesDecoders i) (now : Word) :
    ∃ F r, BlindOutcome F ∧ ∀ u : State, u.port = .command → u.nowMs = now → exec i u = F (u.respond false r) := by
  cases i with
  | rxb b => exact ⟨_, 0, blind_receiveByte b now, fun u hu hnow => hnow ▸ exec_rxb b hu⟩
  | upd => exact ⟨_, 0, (blind_updateTick now).next, fun u hu hnow => hnow ▸ exec_upd hu⟩
  | sel p =>
    cases p with
    | proto p =>
      have hblind : Blind fun s => { s.resetDecoder with proto := p } := fun _ _ _ => ⟨.none, rfl, fun _ => rfl⟩
      exact ⟨_, _, hblind.next, fun u hu _ => exec_sel_proto hu p⟩
    | reserved => exact absurd trivial hi
  | _ => exact absurd trivial hi

/-- A transaction reads no field outside the decoders but its sampled inputs, what CKR reads of the units and what RDST
reads of LAST_STATUS. -/
theorem exec_sameEffect (h : SameDecoders s u) (hport : u.port = s.port) (hnow : u.nowMs = s.nowMs)
    (hts : s.port = .edge → u.edgeTsUs = s.edgeTsUs) (hresp : u.responses = s.responses)
    (hacc : (∃ k, i = .ckr k) → SameAccumulators s u) (hstatus : i = .rdst → u.lastStatus = s.lastStatus)
    (ht : exec i s = .next t) : ∃ t', exec i u = .next t' ∧ SameEffect s u t t' := by
  cases hp : s.port with
  | edge =>
    rw [exec_edgePort i hp] at ht
    rw [exec_edgePort i (hport.trans hp), hts hp]
    exact (blind_edgeEffect i s.edgeTsUs).next.sameEffect h hresp ht
  | command =>
    by_cases hi : LeavesDecoders i
    · rw [exec_leavesDecoders hp hi] at ht
      rw [← next_injective ht]
      exact ⟨_, exec_leavesDecoders (hport.trans hp) hi, answered_sameEffect h hresp hacc hstatus⟩
    · obtain ⟨F, r, hF, hexec⟩ := exec_decodes hi s.nowMs
      rw [hexec s hp rfl] at ht
      rw [hexec u (hport.trans hp) hnow]
      exact hF.sameEffect (s := s.respond false r) (h.respond false r) (congrArg (· ++ [(⟨false, r⟩ : Response)]) hresp) ht

/-- Other values of `LAST_STATUS` and in the units change only those (O51). -/
theorem exec_other_status_and_units {c : Status} {x z : Byte} {y : Half}
    (hacc : (∃ k, i = .ckr k) → x = s.accXor ∧ y = s.accSub ∧ z = s.accCrc) (hstatus : i = .rdst → c = s.lastStatus)
    (ht : exec i s = .next t) :
    ∃ t', exec i { s with lastStatus := c, accXor := x, accSub := y, accCrc := z } = .next t' ∧
      t' = { t with lastStatus := t'.lastStatus, accXor := t'.accXor, accSub := t'.accSub, accCrc := t'.accCrc } ∧
      (c = s.lastStatus → t'.lastStatus = t.lastStatus) ∧
      (x = s.accXor ∧ y = s.accSub ∧ z = s.accCrc → SameAccumulators t t') := by
  obtain ⟨t', ht', hsame, hresp, hsameStatus, hsameAcc⟩ :=
    exec_sameEffect (u := { s with lastStatus := c, accXor := x, accSub := y, accCrc := z }) rfl rfl rfl (fun _ => rfl) rfl
      hacc hstatus ht
  refine ⟨t', ht', ?_, hsameStatus, hsameAcc⟩
  obtain ⟨-, harr, hport, hnow, hts, hrst⟩ := transactionsKeepParametersAndInputs _ _ _ ht
  obtain ⟨-, harr', hport', hnow', hts', hrst'⟩ := transactionsKeepParametersAndInputs _ _ _ ht'
  have hpatch : t' = t.patch t' t'.lastStatus := hsame
  rw [State.patch, harr', hport', hnow', hts', hrst', hresp] at hpatch
  rw [hpatch, ← harr, ← hport, ← hnow, ← hts, ← hrst]
end

/-- Settles O53: the same transaction in a state with another LAST_STATUS has the same effect. -/
theorem lastStatusNeverChangesDecoding : Obligations.LastStatusNeverChangesDecoding := by
  intro i s t c hi ht
  obtain ⟨t', ht', heq, -, hacc⟩ := exec_other_status_and_units (c := c) (x := s.accXor) (y := s.accSub) (z := s.accCrc)
    (fun _ => ⟨rfl, rfl, rfl⟩) (fun h => absurd h hi) ht
  obtain ⟨hxor, hsub, hcrc⟩ := hacc ⟨rfl, rfl, rfl⟩
  rw [hxor, hsub, hcrc] at heq
  refine ⟨t', ht', ?_⟩
  rw [heq]

/-- Settles O54: no transaction but CKI and CKF writes the units, and with other values in them it has the same effect. -/
theorem accumulatorsAreIndependentOfDecoding : Obligations.AccumulatorsAreIndependentOfDecoding := by
  intro i s t x y z hcki hckf hckr ht
  obtain ⟨t', ht', heq, hstatus, -⟩ := exec_other_status_and_units (c := s.lastStatus) (x := x) (y := y) (z := z)
    (fun ⟨k, hk⟩ => absurd hk (hckr k)) (fun _ => rfl) ht
  obtain ⟨hxor, hsub, hcrc⟩ := exec_keeps_accumulators ht hcki hckf
  obtain ⟨hxor', hsub', hcrc'⟩ := exec_keeps_accumulators ht' hcki hckf
  rw [hstatus rfl, hxor', hsub', hcrc'] at heq
  exact ⟨hxor, hsub, hcrc, heq ▸ ht'⟩

/-! An edge and a command (60_exceptions.md section 4). -/

theorem Blind.keeps_outside {f : State → State} (hf : Blind f) (s : State) : (f s).patch s (f s).lastStatus = f s :=
  hf.next.keeps_outside rfl

theorem answered_patch (s : State) (i : Instr) : s.answered i = s.patch (s.answered i) s.lastStatus := by
  rw [State.answered, fed_frame]
  rfl

theorem edgeEffect_readout (s : State) (i : Instr) (ts : Word) : SameReadout s (edgeEffect i ts s) := by
  cases i with
  | edge ch lvl =>
    show SameReadout s (captureEdge ch lvl ts s)
    rw [captureEdge_frame]
    exact ⟨rfl, rfl, rfl, rfl, rfl, rfl⟩
  | _ => exact ⟨rfl, rfl, rfl, rfl, rfl, rfl⟩

/-- Under a pulse protocol RXB only answers (rule R175), as the transactions that leave the decoders do. -/
theorem exec_pulse {s : State} {k : Instr} (hp : s.port = .command) (hpulse : isByteProto s.proto = false) (hupd : k ≠ .upd)
    (hsel : ∀ p, k ≠ .sel p) : exec k s = .next (s.answered k) := by
  by_cases hk : LeavesDecoders k
  · exact exec_leavesDecoders hp hk
  · cases k with
    | rxb b =>
      rw [exec_rxb b hp, receiveByte_pulse (s := s.respond false 0) b s.nowMs hpulse]
      rfl
    | upd => exact absurd rfl hupd
    | sel p => exact absurd rfl (hsel p)
    | _ => exact absurd trivial hk

section
variable {s t : State} {i k : Instr} {e : EdgeTransfer} {c : CommandTransfer} {rest : List Arrival}

/-- The state after an edge word, with `later` still to come. -/
def State.afterEdge (s : State) (i : Instr) (e : EdgeTransfer) (later : List Arrival) : State :=
  edgeEffect i e.edgeTsUs (s.sampleEdge e later)

/-- A state is its decoders and the fields outside them, the port given. -/
theorem patch_port_eq {u o : State} {x : Status} (ht : t = u.patch t x) (hin : o.arrivals = t.arrivals ∧ o.nowMs = t.nowMs ∧
    o.edgeTsUs = t.edgeTsUs ∧ o.rst = t.rst) (hacc : SameAccumulators t o) (hresp : o.responses = t.responses) :
    { u.patch o x with port := t.port } = t := by
  obtain ⟨harr, hnow, hts, hrst⟩ := hin
  obtain ⟨hxor, hsub, hcrc⟩ := hacc
  conv_rhs => rw [ht]
  simp only [State.patch, harr, hnow, hts, hrst, hxor, hsub, hcrc, hresp]

/-- Outside the decoders both orders leave the same inputs (O51). -/
theorem sampled_alike {v : State} (h : exec k ((s.afterEdge i e (.command c :: rest)).sampleCommand c rest) = .next t)
    (hv : exec k (s.sampleCommand c (.edge e :: rest)) = .next v) :
    (v.sampleEdge e rest).arrivals = t.arrivals ∧ (v.sampleEdge e rest).nowMs = t.nowMs ∧
      (v.sampleEdge e rest).edgeTsUs = t.edgeTsUs ∧ (v.sampleEdge e rest).rst = t.rst := by
  have hedge : exec i (s.sampleEdge e (.command c :: rest)) = .next (s.afterEdge i e (.command c :: rest)) :=
    exec_edgePort i rfl
  obtain ⟨-, -, -, -, hts, hrst⟩ := transactionsKeepParametersAndInputs _ _ _ hedge
  obtain ⟨-, harr', -, hnow', hts', hrst'⟩ := transactionsKeepParametersAndInputs _ _ _ h
  obtain ⟨-, -, -, hnow, -, hrst''⟩ := transactionsKeepParametersAndInputs _ _ _ hv
  exact ⟨harr'.symm, hnow.trans hnow'.symm, (hts'.trans hts).symm, hrst''.trans (hrst'.trans hrst).symm⟩

/-- A byte protocol ignores the edge, and the command does not read its time. -/
theorem edge_command_commute_byte (hb : isByteProto s.proto = true) (hsel : ∀ p, k ≠ .sel p)
    (h : exec k ((s.afterEdge i e (.command c :: rest)).sampleCommand c rest) = .next t) :
    ∃ v, exec k (s.sampleCommand c (.edge e :: rest)) = .next v ∧ { v.afterEdge i e rest with port := t.port } = t := by
  have hin (v : State) (hv : exec k (s.sampleCommand c (.edge e :: rest)) = .next v) := sampled_alike h hv
  rw [State.afterEdge, edgeEffect_byte (s := s.sampleEdge e _) i _ hb] at h
  obtain ⟨v, hv, hsame, hresp, hstatus, hacc⟩ :=
    exec_sameEffect (s := (s.sampleEdge e _).sampleCommand c rest) (u := s.sampleCommand c (.edge e :: rest)) rfl rfl rfl nofun
      rfl (fun _ => ⟨rfl, rfl, rfl⟩) (fun _ => rfl) h
  have hproto : v.proto = s.proto := by
    obtain ⟨hproto, -⟩ := onlyTheNamedTransactionsWriteEachField _ _ _ hv
    by_contra hne
    obtain ⟨p, hp⟩ := hproto hne
    exact hsel p hp
  have hafter : v.afterEdge i e rest = t.patch (v.sampleEdge e rest) t.lastStatus := by
    rw [State.afterEdge, edgeEffect_byte (s := v.sampleEdge e rest) i _ (hproto ▸ hb), ← hstatus rfl]
    exact congrArg (fun w : State => w.sampleEdge e rest) hsame
  refine ⟨v, hv, ?_⟩
  rw [hafter]
  exact patch_port_eq rfl (hin v hv) (hacc ⟨rfl, rfl, rfl⟩) hresp

/-- The edge writes nothing outside the decoders. -/
theorem afterEdge_keeps_outside (s : State) (i : Instr) (e : EdgeTransfer) (later : List Arrival) :
    SameAccumulators s (s.afterEdge i e later) ∧ (s.afterEdge i e later).responses = s.responses := by
  have hkept := (blind_edgeEffect i e.edgeTsUs).keeps_outside (s.sampleEdge e later)
  exact ⟨⟨(congrArg State.accXor hkept).symm, (congrArg State.accSub hkept).symm, (congrArg State.accCrc hkept).symm⟩,
    (congrArg State.responses hkept).symm⟩

/-- The edge reads nothing the command before it has written. -/
theorem afterEdge_answered (s : State) (i k : Instr) (e : EdgeTransfer) (c : CommandTransfer) (later queue rest : List Arrival) :
    ((s.sampleCommand c queue).answered k).afterEdge i e rest =
      (s.afterEdge i e later).patch (((s.sampleCommand c queue).answered k).sampleEdge e rest)
        (s.afterEdge i e later).lastStatus := by
  obtain ⟨d, hd, hsame⟩ := blind_edgeEffect i e.edgeTsUs (s.sampleEdge e later)
    (((s.sampleCommand c queue).answered k).sampleEdge e rest) s.lastStatus
  rw [State.afterEdge, State.afterEdge, ← hsame rfl, ← hd]
  exact congrArg (fun w : State => edgeEffect i e.edgeTsUs (w.sampleEdge e rest)) (answered_patch (s.sampleCommand c queue) k)

/-- Under a pulse protocol the command reads no field the edge writes, and the edge none the command writes. -/
theorem edge_command_commute_pulse (hpulse : isByteProto s.proto = false) (hupd : k ≠ .upd) (hsel : ∀ p, k ≠ .sel p)
    (hrdst : k = .rdst → s.proto ≠ .ppm)
    (h : exec k ((s.afterEdge i e (.command c :: rest)).sampleCommand c rest) = .next t) :
    ∃ v, exec k (s.sampleCommand c (.edge e :: rest)) = .next v ∧ { v.afterEdge i e rest with port := t.port } = t := by
  have hread : SameReadout s (s.afterEdge i e (.command c :: rest)) := edgeEffect_readout (s.sampleEdge e _) i e.edgeTsUs
  have hstatus (hk : k = .rdst) : (s.afterEdge i e (.command c :: rest)).lastStatus = s.lastStatus :=
    edgeEffect_lastStatus (s := s.sampleEdge e _) i e.edgeTsUs (hrdst hk)
  obtain ⟨hunits, hresp⟩ := afterEdge_keeps_outside s i e (.command c :: rest)
  have hafter := afterEdge_answered s i k e c (.command c :: rest) (.edge e :: rest) rest
  have hv := exec_pulse (s := s.sampleCommand c (.edge e :: rest)) rfl hpulse hupd hsel
  have hin := sampled_alike h hv
  generalize s.afterEdge i e (.command c :: rest) = u at *
  obtain ⟨-, hproto, -⟩ := id hread
  have ht := exec_pulse (s := u.sampleCommand c rest) rfl ((congrArg isByteProto hproto).trans hpulse) hupd hsel
  cases next_injective (ht.symm.trans h)
  refine ⟨_, hv, ?_⟩
  rw [hafter]
  have hanswer : (u.sampleCommand c rest).answer k = (s.sampleCommand c (.edge e :: rest)).answer k :=
    answer_congr hread (fun _ => hunits) hstatus
  have hunits' : SameAccumulators (u.sampleCommand c rest) (s.sampleCommand c (.edge e :: rest)) := by
    obtain ⟨hxor, hsub, hcrc⟩ := hunits
    exact ⟨hxor.symm, hsub.symm, hcrc.symm⟩
  exact patch_port_eq (answered_patch (u.sampleCommand c rest) k) hin (fed_congr hunits')
    (congrArg₂ (fun rs r => rs ++ [r]) hresp hanswer).symm

/-! The two steps. -/

theorem stepMany_one (s : State) : stepMany 1 s = step s := by
  cases h : step s <;> simp [stepMany, h]

variable (hl : configLegal s.cfg = true)
include hl

theorem stepMany_edge_command (hr : s.rst = false) (ha : s.arrivals = .edge e :: .command c :: rest) :
    stepMany 2 s =
      exec (decode c.word) ((s.afterEdge (decode e.word) e (.command c :: rest)).sampleCommand c rest) := by
  have hedge : exec (decode e.word) (s.sampleEdge e (.command c :: rest)) =
      .next (s.afterEdge (decode e.word) e (.command c :: rest)) := exec_edgePort _ rfl
  obtain ⟨hcfg, harr, -, -, -, hrst⟩ := transactionsKeepParametersAndInputs _ _ _ hedge
  rw [stepMany_of_step ((step_edge hl ha).trans ((unlessReset_released hr _ _).trans hedge)), stepMany_one,
    step_command ((congrArg configLegal hcfg).trans hl) harr, unlessReset_released (hrst.trans hr)]

theorem stepMany_command_edge (hr : s.rst = false) (ha : s.arrivals = .command c :: .edge e :: rest)
    {v : State} (hv : exec (decode c.word) (s.sampleCommand c (.edge e :: rest)) = .next v) :
    stepMany 2 s = .next (v.afterEdge (decode e.word) e rest) := by
  obtain ⟨hcfg, harr, -, -, -, hrst⟩ := transactionsKeepParametersAndInputs _ _ _ hv
  rw [stepMany_of_step ((step_command hl ha).trans ((unlessReset_released hr _ _).trans hv)), stepMany_one,
    step_edge ((congrArg configLegal hcfg).trans hl) harr, unlessReset_released (hrst.trans hr)]
  exact exec_edgePort _ rfl

/-- While `rst` is asserted both transfers are skipped, in either order. -/
theorem stepMany_skips_two (hr : s.rst = true)
    (ha : s.arrivals = .edge e :: .command c :: rest ∨ s.arrivals = .command c :: .edge e :: rest) :
    stepMany 2 s = .next (s.skipTransfer rest) := by
  rcases ha with ha | ha
  · rw [stepMany_of_step (step_skips_transfer hl hr (.inr (.inl ⟨e, ha⟩))), stepMany_one]
    exact step_skips_transfer (s := s.skipTransfer _) hl hr (.inl ⟨c, rfl⟩)
  · rw [stepMany_of_step (step_skips_transfer hl hr (.inl ⟨c, ha⟩)), stepMany_one]
    exact step_skips_transfer (s := s.skipTransfer _) hl hr (.inr (.inl ⟨e, rfl⟩))
end

/-- Settles O56: under `rst` both are skipped; a byte protocol ignores the edge; under a pulse protocol the command that is
left neither reads nor writes what the edge does. -/
theorem edgeAndCommandCommute : Obligations.EdgeAndCommandCommute := by
  intro s t e c rest hupd hsel hrdst h
  obtain ⟨u, hu, -⟩ := step_of_stepMany_succ h
  obtain ⟨hl, -⟩ := step_cases hu
  rcases Bool.eq_false_or_eq_true s.rst with hr | hr
  · rw [stepMany_skips_two hl hr (.inl rfl)] at h
    rw [← next_injective h]
    exact ⟨_, stepMany_skips_two (s := { s with arrivals := .command c :: .edge e :: rest }) hl hr (.inr rfl), rfl⟩
  · rw [stepMany_edge_command hl hr rfl] at h
    have hcommute : ∃ v, exec (decode c.word) (s.sampleCommand c (.edge e :: rest)) = .next v ∧
        { v.afterEdge (decode e.word) e rest with port := t.port } = t := by
      rcases proto_cases s.proto with hb | hp | hp
      · exact edge_command_commute_byte hb hsel h
      · exact edge_command_commute_pulse (by rw [hp]; rfl) (fun hk => hupd ⟨hk, .inl hp⟩) hsel
          (fun hk _ => hrdst ⟨hk, hp⟩) h
      · exact edge_command_commute_pulse (by rw [hp]; rfl) (fun hk => hupd ⟨hk, .inr hp⟩) hsel (fun _ => by simp [hp]) h
    obtain ⟨v, hv, heq⟩ := hcommute
    exact ⟨_, stepMany_command_edge (s := { s with arrivals := .command c :: .edge e :: rest }) hl hr rfl hv, heq⟩

end Sys2Proof.Machine
